-- ==== Sys2Proof/Word.lean ====
section
/-! DEFINITION. The word types of MesaOS-NET: octets, 16-bit and 32-bit fields, octet strings and MAC addresses
(spec/00_scope.md R12, R13; spec/40_serialization.md R144, R145). -/

namespace Sys2Proof

/-- "An *octet* is 8 bits" (R12). -/
abbrev Octet := BitVec 8

/-- A 16-bit field: ports, EtherTypes, lengths. -/
abbrev Word16 := BitVec 16

/-- A 32-bit field: IPv4 addresses held as numbers (R65, R145), sequence and acknowledgment numbers. -/
abbrev Word32 := BitVec 32

/-- An octet string: a frame, packet, segment, message, payload (R13). The first octet on the wire comes first. -/
abbrev Octets := List Octet

/-- A MacAddress: "6 bytes, value type", in wire order, with no numeric byte order (R65, R144). -/
structure Mac where
  o0 : Octet
  o1 : Octet
  o2 : Octet
  o3 : Octet
  o4 : Octet
  o5 : Octet
  deriving DecidableEq, Repr, Inhabited

/-- The six octets of a MAC address in wire order (R144). -/
def Mac.octets (m : Mac) : Octets := [m.o0, m.o1, m.o2, m.o3, m.o4, m.o5]

end Sys2Proof
end

