-- ==== Sys2Proof/Syntax.lean ====
section
/-! DEFINITION. The whole syntax of MesaOS-NET: connection states, drop reasons, parsed segments, command operands, events,
and `Instr`, one constructor per row of spec/opcode_table.json in the table's order. -/

namespace Sys2Proof

/-- `c.state`: the eleven values of R31, in the source's order. -/
inductive TcpState where
  | closed
  | listen
  | synSent
  | synReceived
  | established
  | finWait1
  | finWait2
  | closeWait
  | closing
  | lastAck
  | timeWait
  deriving DecidableEq, Repr

/-- The numbers of the states, used only in the dispatch key (R31, R117). -/
def TcpState.code : TcpState → Nat
  | .closed => 0
  | .listen => 1
  | .synSent => 2
  | .synReceived => 3
  | .established => 4
  | .finWait1 => 5
  | .finWait2 => 6
  | .closeWait => 7
  | .closing => 8
  | .lastAck => 9
  | .timeWait => 10

/-- The drop reasons of R381 (code 0, `None`, is the absence of a reason). -/
inductive DropReason where
  /-- "too short for its header" (R382). -/
  | malformedPacket
  /-- An inbound SYN needs a record and the table is full (R297). -/
  | allocationFailure
  /-- No 4-tuple match and no SYN (R297). -/
  | unknownConnection
  /-- Kept in the taxonomy and never raised (R383). -/
  | checksumMismatch
  /-- `syn_count` exceeds 10 in the bucket (R297). -/
  | synFloodThreshold
  /-- EtherType not one of the four accepted (R172). -/
  | unknownEtherType
  /-- IPv4 protocol not 1, 6 or 17 (R213). -/
  | unknownProtocol
  /-- UDP destination port not 68 (R250). -/
  | unknownPort
  /-- ARP target address differs from `own_ip` (R190). -/
  | arpNotForUs
  /-- ICMP type not 0 (R241). -/
  | icmpIgnored
  /-- `chaddr` differs from `OWN_MAC` (R265). -/
  | dhcpNotForUs
  /-- The connection's state has no transition for the segment (R310). -/
  | tcpNoAction
  /-- `yiaddr` is 0 (R265). -/
  | dhcpNoAddress
  deriving DecidableEq, Repr

/-- The codes of R381. -/
def DropReason.code : DropReason → Nat
  | .malformedPacket => 1
  | .allocationFailure => 2
  | .unknownConnection => 3
  | .checksumMismatch => 4
  | .synFloodThreshold => 5
  | .unknownEtherType => 6
  | .unknownProtocol => 7
  | .unknownPort => 8
  | .arpNotForUs => 9
  | .icmpIgnored => 10
  | .dhcpNotForUs => 11
  | .tcpNoAction => 12
  | .dhcpNoAddress => 13

/-- The record `seg` that `ParseTcp` gives (R291). `ack` and `window` are parsed and never used (R311). -/
structure TcpSeg where
  srcPort : Word16
  dstPort : Word16
  seq     : Word32
  ack     : Word32
  flags   : Octet
  window  : Word16
  data    : Octets
  deriving DecidableEq, Repr

/-- An operand of a host command (R111, R112). A handle is written as an integer: U21 speaks of negative ones (log 17). -/
inductive Operand where
  | mac    (m : Mac)
  | addr   (v : Word32)
  | half   (v : Word16)
  | octet  (v : Octet)
  | octets (b : Octets)
  | handle (h : Int)
  | size   (n : Nat)
  deriving DecidableEq, Repr

/-- An event (R17): a received frame, or a host command as code, operands and time (R111). -/
inductive Event where
  | rx  (frame : Octets) (now : Nat)
  | cmd (code : Octet) (args : List Operand) (now : Nat)
  deriving DecidableEq, Repr

/-- The formats of spec/opcode_table.json: which key a row is matched against (R117). -/
inductive Format where
  | ethertype
  | arpOpcode
  | ipProtocol
  | icmpType
  | udpDport
  | dhcpOption
  | tcpStateFlags
  | cmd
  deriving DecidableEq, Repr

/-- An encoded instruction: what the dispatcher of one format is handed (R16, R90, R117). For TCP the key also needs the state
of the record the lookup found, `none` where it found none. -/
inductive Encoded where
  | ethertype     (frame : Octets) (now : Nat)
  | arpOpcode     (packet : Octets)
  | ipProtocol    (packet : Octets) (now : Nat)
  | icmpType      (srcIp : Word32) (message : Octets)
  | udpDport      (srcIp : Word32) (datagram : Octets)
  | dhcpOption    (stream : Octets)
  | tcpStateFlags (found : Option TcpState) (srcIp : Word32) (segment : Octets) (now : Nat)
  | cmd           (code : Octet) (args : List Operand) (now : Nat)
  deriving DecidableEq, Repr

/-- Which format an encoded instruction has. -/
def Encoded.format : Encoded → Format
  | .ethertype _ _ => .ethertype
  | .arpOpcode _ => .arpOpcode
  | .ipProtocol _ _ => .ipProtocol
  | .icmpType _ _ => .icmpType
  | .udpDport _ _ => .udpDport
  | .dhcpOption _ => .dhcpOption
  | .tcpStateFlags _ _ _ _ => .tcpStateFlags
  | .cmd _ _ _ => .cmd

/-- Why the decoder gives no instruction. -/
inductive DecodeError where
  /-- The octets are fewer than the header they should hold: the drop `MalformedPacket` (R382). -/
  | malformedPacket
  /-- No whole option is left: the walk stops (R160). -/
  | noOption
  /-- A command code not in the table of R111 (U14). -/
  | unknownCommandCode
  /-- A command code of R111 with operands of other shapes than R111 gives it (log 13). -/
  | wrongOperands
  deriving DecidableEq, Repr

/-- The instructions of MesaOS-NET: one constructor per row of spec/opcode_table.json. A receive arm holds the fields its rule
reads out of the octets it is handed; ignored fields are in no constructor. -/
inductive Instr where
  /-- ETH.RX.IPV4 (R170) -/
  | ethRxIpv4 (payload : Octets) (now : Nat)
  /-- ETH.RX.IPV4_SWAPPED (R171) -/
  | ethRxIpv4Swapped (payload : Octets) (now : Nat)
  /-- ETH.RX.ARP (R170) -/
  | ethRxArp (payload : Octets)
  /-- ETH.RX.ARP_SWAPPED (R171) -/
  | ethRxArpSwapped (payload : Octets)
  /-- ETH.RX.UNKNOWN (R172) -/
  | ethRxUnknown (ethertype : Word16)
  /-- ARP.RX.REQUEST (R190) -/
  | arpRxRequest (sha : Mac) (spa : Word32) (tpa : Word32)
  /-- ARP.RX.OTHER (R190) -/
  | arpRxOther (opcode : Word16) (sha : Mac) (spa : Word32) (tpa : Word32)
  /-- IP.RX.ICMP (R210) -/
  | ipRxIcmp (srcIp : Word32) (payload : Octets)
  /-- IP.RX.TCP (R210) -/
  | ipRxTcp (srcIp : Word32) (payload : Octets) (now : Nat)
  /-- IP.RX.UDP (R210) -/
  | ipRxUdp (srcIp : Word32) (payload : Octets)
  /-- IP.RX.UNKNOWN (R213) -/
  | ipRxUnknown (protocol : Octet)
  /-- ICMP.RX.ECHO_REPLY (R241) -/
  | icmpRxEchoReply (srcIp : Word32) (nbytes : Nat) (sequence : Word16)
  /-- ICMP.RX.OTHER (R241) -/
  | icmpRxOther (icmpType : Octet)
  /-- UDP.RX.DHCP_CLIENT (R250) -/
  | udpRxDhcpClient (payload : Octets)
  /-- UDP.RX.OTHER (R250) -/
  | udpRxOther (destPort : Word16)
  /-- DHCP.OPT.PAD (R160) -/
  | dhcpOptPad
  /-- DHCP.OPT.END (R160) -/
  | dhcpOptEnd
  /-- DHCP.OPT.SUBNET_MASK (R267) -/
  | dhcpOptSubnetMask (value : Octets)
  /-- DHCP.OPT.ROUTER (R267) -/
  | dhcpOptRouter (value : Octets)
  /-- DHCP.OPT.OTHER (R267) -/
  | dhcpOptOther (code : Octet) (value : Octets)
  /-- TCP.RX.NOCONN_SYN (R297) -/
  | tcpRxNoconnSyn (srcIp : Word32) (seg : TcpSeg) (now : Nat)
  /-- TCP.RX.NOCONN_OTHER (R297) -/
  | tcpRxNoconnOther (srcIp : Word32) (seg : TcpSeg)
  /-- TCP.RX.LISTEN_SYN (R301) -/
  | tcpRxListenSyn (srcIp : Word32) (seg : TcpSeg)
  /-- TCP.RX.SYN_SENT_SYNACK (R302) -/
  | tcpRxSynSentSynack (srcIp : Word32) (seg : TcpSeg)
  /-- TCP.RX.SYN_RECEIVED_ACK (R303) -/
  | tcpRxSynReceivedAck (srcIp : Word32) (seg : TcpSeg)
  /-- TCP.RX.ESTABLISHED_DATA (R304) -/
  | tcpRxEstablishedData (srcIp : Word32) (seg : TcpSeg)
  /-- TCP.RX.ESTABLISHED_FIN (R305) -/
  | tcpRxEstablishedFin (srcIp : Word32) (seg : TcpSeg)
  /-- TCP.RX.FIN_WAIT_1_ACK (R306) -/
  | tcpRxFinWait1Ack (srcIp : Word32) (seg : TcpSeg)
  /-- TCP.RX.FIN_WAIT_2_FIN (R307) -/
  | tcpRxFinWait2Fin (srcIp : Word32) (seg : TcpSeg)
  /-- TCP.RX.LAST_ACK_ACK (R308) -/
  | tcpRxLastAckAck (srcIp : Word32) (seg : TcpSeg)
  /-- TCP.RX.TIME_WAIT_ANY (R309) -/
  | tcpRxTimeWaitAny (srcIp : Word32) (seg : TcpSeg)
  /-- TCP.RX.NO_ACTION (R310): the state found is part of the key, since the row fixes none. -/
  | tcpRxNoAction (found : TcpState) (srcIp : Word32) (seg : TcpSeg)
  /-- ETH.SEND (R175) -/
  | ethSend (destMac : Mac) (ethertype : Word16) (payload : Octets)
  /-- ARP.RESOLVE (R196) -/
  | arpResolve (targetIp : Word32)
  /-- ARP.REQUEST (R195) -/
  | arpRequest (targetIp : Word32)
  /-- IP.SEND (R218) -/
  | ipSend (destIp : Word32) (protocol : Octet) (payload : Octets)
  /-- ICMP.ECHO (R240) -/
  | icmpEcho (destIp : Word32) (ident : Word16) (sequence : Word16)
  /-- UDP.SEND (R252) -/
  | udpSend (destIp : Word32) (srcPort : Word16) (destPort : Word16) (payload : Octets)
  /-- DHCP.DISCOVER (R261) -/
  | dhcpDiscover
  /-- IP.GET_IP (R225) -/
  | ipGetIp
  /-- IP.GET_GATEWAY (R226) -/
  | ipGetGateway
  /-- IP.GET_NETMASK (R227) -/
  | ipGetNetmask
  /-- IP.SET_IP (R228) -/
  | ipSetIp (v : Word32)
  /-- IP.SET_GATEWAY (R229) -/
  | ipSetGateway (v : Word32)
  /-- IP.SET_NETMASK (R230) -/
  | ipSetNetmask (v : Word32)
  /-- TCP.LISTEN (R342) -/
  | tcpListen (port : Word16)
  /-- TCP.ACCEPT (R343) -/
  | tcpAccept (handle : Int)
  /-- TCP.SEND (R346) -/
  | tcpSend (handle : Int) (data : Octets)
  /-- TCP.RECV (R347) -/
  | tcpRecv (handle : Int) (maxlen : Nat)
  /-- TCP.CLOSE (R348) -/
  | tcpClose (handle : Int)
  /-- TCP.CONNECT (R350) -/
  | tcpConnect (ip : Word32) (port : Word16)
  deriving DecidableEq, Repr

end Sys2Proof
end

