-- ==== Sys2Proof/Machine/Serialization.lean ====
section
/-! DEFINITION. The serialization primitives of spec/40_serialization.md: big-endian fields (R140 to R146), the checksum engine
(R150, R152) and the option encoder (R162). Pure functions: they read no state and write none. -/

namespace Sys2Proof.Machine

/-! ### Big-endian fields -/

/-- `b[i]`, `MemRead(b, i, 1)` (R14). A caller has tested the length first (R73); past the end it is 0. -/
def octetAt (b : Octets) (i : Nat) : Octet := b.getD i 0

/-- `be16(b, i) = b[i] * 256 + b[i+1]` (R14, R140): the two octets joined, the first the more significant. -/
def be16 (b : Octets) (i : Nat) : Word16 := octetAt b i ++ octetAt b (i + 1)

/-- `be32(b, i) = b[i] * 2^24 + b[i+1] * 2^16 + b[i+2] * 2^8 + b[i+3]` (R14, R141): the four octets joined, the first the most
significant. -/
def be32 (b : Octets) (i : Nat) : Word32 := octetAt b i ++ octetAt b (i + 1) ++ octetAt b (i + 2) ++ octetAt b (i + 3)

/-- `put16(v) = [v[15:8], v[7:0]]` (R14, R142). -/
def put16 (v : Word16) : Octets := [v.extractLsb' 8 8, v.extractLsb' 0 8]

/-- `put32(v) = [v[31:24], v[23:16], v[15:8], v[7:0]]` (R14, R143). -/
def put32 (v : Word32) : Octets :=
  [v.extractLsb' 24 8, v.extractLsb' 16 8, v.extractLsb' 8 8, v.extractLsb' 0 8]

/-- `put16` of a length that the caller has bounded by 65535 (R147 c). -/
def putLength (n : Nat) : Octets := put16 (BitVec.ofNat 16 n)

/-- A string of zero octets. -/
def zeros (n : Nat) : Octets := List.replicate n 0

/-- `swap16(v) = v[7:0] * 256 + v[15:8]` (R146). -/
def swap16 (v : Word16) : Word16 := v.extractLsb' 0 8 ++ v.extractLsb' 8 8

/-- The MAC address at `b[i..i+6)` (R144). -/
def macAt (b : Octets) (i : Nat) : Mac :=
  ⟨octetAt b i, octetAt b (i + 1), octetAt b (i + 2), octetAt b (i + 3), octetAt b (i + 4), octetAt b (i + 5)⟩

/-- ff:ff:ff:ff:ff:ff (R144; from general knowledge, G1). -/
def broadcastMac : Mac := ⟨0xff#8, 0xff#8, 0xff#8, 0xff#8, 0xff#8, 0xff#8⟩

/-- 00:00:00:00:00:00: the cache at reset (R25) and the target of a request (R195, G7). -/
def zeroMac : Mac := ⟨0, 0, 0, 0, 0, 0⟩

/-! ### The checksum engine -/

/-- The sum of the 16-bit big-endian words, a last odd octet padded with one zero octet (R150). -/
def wordSum : Octets → Nat
  | [] => 0
  | [a] => a.toNat * 256
  | a :: b :: rest => a.toNat * 256 + b.toNat + wordSum rest

/-- "while s >= 2^16: s <- s[15:0] + (s >> 16)" (R150). The fuel bounds the turns: each makes a sum of at least 2^16 smaller,
so a fuel of `s` is always enough (theorem `foldCarries_lt` of Laws). -/
def foldCarries : Nat → Nat → Nat
  | 0, s => s
  | fuel + 1, s => if s < 65536 then s else foldCarries fuel (s % 65536 + s / 65536)

/-- `Checksum(b)` (R150): the one's complement of the folded sum. -/
def checksum (b : Octets) : Word16 :=
  BitVec.ofNat 16 (65535 - foldCarries (wordSum b) (wordSum b))

/-- `b` with its two octets at offset `k` replaced by `put16(v)`: `MemWrite(b, k, 2, v)` (R14). -/
def setHalfAt (b : Octets) (k : Nat) (v : Word16) : Octets := b.take k ++ put16 v ++ b.drop (k + 2)

/-- `InsertChecksum(b, k)` with the prefix `p` that is summed and not sent (R152). The field holds `[0, 0]` when it is called. -/
def insertChecksum (p b : Octets) (k : Nat) : Octets := setHalfAt b k (checksum (p ++ b))

/-! ### Options -/

/-- `TlvEncode(code, value) = [code, len(value)] ++ value` (R162). -/
def tlvEncode (code : Octet) (value : Octets) : Octets := code :: BitVec.ofNat 8 value.length :: value

/-- `TlvEnd = [255]` (R162). -/
def tlvEnd : Octets := [0xff#8]

end Sys2Proof.Machine
end

