-- ==== Sys2Proof/Machine/Flags.lean ====
section
/-! DEFINITION. The TCP flag bits (spec/30_encoding.md R104): the only flags of this hardware, a wire field, since the block
has no status flags or condition codes (spec/10_state.md R24). -/

namespace Sys2Proof.Machine

/-- FIN = 0x01 (R104, G2). -/
def flagFin : Octet := 0x01#8
/-- SYN = 0x02 (R104, G2). -/
def flagSyn : Octet := 0x02#8
/-- RST = 0x04 (R104): ignored on receive, never sent (R311). -/
def flagRst : Octet := 0x04#8
/-- PSH = 0x08 (R104): ignored on receive. -/
def flagPsh : Octet := 0x08#8
/-- ACK = 0x10 (R104, G2). -/
def flagAck : Octet := 0x10#8
/-- URG = 0x20 (R104): ignored on receive, never sent. -/
def flagUrg : Octet := 0x20#8

/-- The combinations the block sends: SYN, `SYN|ACK`, ACK, `FIN|ACK`, `PSH|ACK` (R104). -/
def flagsSynAck : Octet := 0x12#8
def flagsFinAck : Octet := 0x11#8
def flagsPshAck : Octet := 0x18#8

/-- `SYN(seg)`: `seg.flags & 0x02 != 0` (R291), whatever the other bits hold (R104). -/
def hasSyn (flags : Octet) : Bool := flags.getLsbD 1
/-- `ACK(seg)`: `seg.flags & 0x10 != 0` (R291). -/
def hasAck (flags : Octet) : Bool := flags.getLsbD 4
/-- `FIN(seg)`: `seg.flags & 0x01 != 0` (R291). -/
def hasFin (flags : Octet) : Bool := flags.getLsbD 0

/-- How many sequence numbers the flags of a sent segment take: "1 if flags & 0x03 != 0 else 0" (R299). -/
def flagsSequenceCount (flags : Octet) : Nat :=
  if hasSyn flags || hasFin flags then 1 else 0

end Sys2Proof.Machine
end

