-- ==== Sys2Proof/WellFormed.lean ====
section
/-! DEFINITION. Which terms of `Instr` stand for a row of the table: the part of a row's key that the instruction alone decides
(spec/30_encoding.md R92 to R110, R117) and the length bounds of its operands (R222, R253, R109, R241). -/

namespace Sys2Proof

open Sys2Proof.Machine

/-- The four EtherTypes that select an arm of their own (R92). -/
def isKnownEtherType (t : Word16) : Bool :=
  t == 0x0800#16 || t == 0x0008#16 || t == 0x0806#16 || t == 0x0608#16

/-- The three protocol numbers (R98). -/
def isKnownProtocol (p : Octet) : Bool := p == 1#8 || p == 6#8 || p == 17#8

/-- The option codes with a row of their own: 0, 1, 3, 255 (R110). -/
def isKnownOption (c : Octet) : Bool := c == 0#8 || c == 1#8 || c == 3#8 || c == 255#8

/-- "no row above matched" (R107, R310): in this state this segment selects none of the rows before `TCP.RX.NO_ACTION`. -/
def noRowMatches (found : TcpState) (seg : TcpSeg) : Bool :=
  match found with
  | .closed => true
  | .listen => !hasSyn seg.flags
  | .synSent => !(hasSyn seg.flags && hasAck seg.flags)
  | .synReceived => !hasAck seg.flags
  | .established => seg.data.isEmpty && !hasFin seg.flags
  | .finWait1 => !hasAck seg.flags
  | .finWait2 => !hasFin seg.flags
  | .closeWait => true
  | .closing => true
  | .lastAck => !hasAck seg.flags
  | .timeWait => false

/-- The longest IPv4 payload, 65515 octets (R222). -/
def maxIpPayload : Nat := 65515
/-- The longest UDP payload, 65507 octets (R253). -/
def maxUdpPayload : Nat := 65507
/-- The most data one TCP segment carries, 65495 octets (R222). -/
def maxTcpData : Nat := 65495

/-- A term of `Instr` is well formed when some encoding decodes to it. A segment with data and FIN in `ESTABLISHED` is the
instruction ESTABLISHED_DATA, which goes on to the FIN row in the same operation (R107, R304; log 15). -/
def Instr.wellFormed : Instr → Bool
  | .ethRxIpv4 _ _ => true
  | .ethRxIpv4Swapped _ _ => true
  | .ethRxArp _ => true
  | .ethRxArpSwapped _ => true
  | .ethRxUnknown t => !isKnownEtherType t
  | .arpRxRequest _ _ _ => true
  | .arpRxOther op _ _ _ => op != 1#16
  | .ipRxIcmp _ _ => true
  | .ipRxTcp _ _ _ => true
  | .ipRxUdp _ _ => true
  | .ipRxUnknown p => !isKnownProtocol p
  | .icmpRxEchoReply _ n _ => decide (8 ≤ n)
  | .icmpRxOther t => t != 0#8
  | .udpRxDhcpClient _ => true
  | .udpRxOther p => p != 68#16
  | .dhcpOptPad => true
  | .dhcpOptEnd => true
  | .dhcpOptSubnetMask v => decide (v.length ≤ 255)
  | .dhcpOptRouter v => decide (v.length ≤ 255)
  | .dhcpOptOther c v => !isKnownOption c && decide (v.length ≤ 255)
  | .tcpRxNoconnSyn _ seg _ => hasSyn seg.flags
  | .tcpRxNoconnOther _ seg => !hasSyn seg.flags
  | .tcpRxListenSyn _ seg => hasSyn seg.flags
  | .tcpRxSynSentSynack _ seg => hasSyn seg.flags && hasAck seg.flags
  | .tcpRxSynReceivedAck _ seg => hasAck seg.flags
  | .tcpRxEstablishedData _ seg => !seg.data.isEmpty
  | .tcpRxEstablishedFin _ seg => seg.data.isEmpty && hasFin seg.flags
  | .tcpRxFinWait1Ack _ seg => hasAck seg.flags
  | .tcpRxFinWait2Fin _ seg => hasFin seg.flags
  | .tcpRxLastAckAck _ seg => hasAck seg.flags
  | .tcpRxTimeWaitAny _ _ => true
  | .tcpRxNoAction found _ seg => noRowMatches found seg
  | .ethSend _ _ _ => true
  | .arpResolve _ => true
  | .arpRequest _ => true
  | .ipSend _ _ p => decide (p.length ≤ maxIpPayload)
  | .icmpEcho _ _ _ => true
  | .udpSend _ _ _ p => decide (p.length ≤ maxUdpPayload)
  | .dhcpDiscover => true
  | .ipGetIp => true
  | .ipGetGateway => true
  | .ipGetNetmask => true
  | .ipSetIp _ => true
  | .ipSetGateway _ => true
  | .ipSetNetmask _ => true
  | .tcpListen _ => true
  | .tcpAccept _ => true
  | .tcpSend _ _ => true
  | .tcpRecv _ _ => true
  | .tcpClose _ => true
  | .tcpConnect _ _ => true

end Sys2Proof
end

