-- ==== Sys2Proof/Decode.lean ====
section
/-! DEFINITION. The decoder, total on any octets and any operands, and after it the encoder, from the same tables
(spec/30_encoding.md R91 to R117). Each format's dispatch is written once, as a `case` function that says which arm a string of
octets selects and with which fields; the decoder answers the arm's instruction, the machine runs the arm. -/

namespace Sys2Proof

open Sys2Proof.Machine

/-! ### The dispatch of each format -/

/-- ETHERTYPE (R92, R170, R171): the key is `be16(f, 12)`, both byte orders of the two known types. -/
def caseFrame {α : Type} (f : Octets) (malformed : α) (ipv4 ipv4Swapped arp arpSwapped : Octets → α) (unknown : Word16 → α) : α :=
  if f.length < 14 then malformed
  else if be16 f 12 = 0x0800#16 then ipv4 (f.drop 14)
  else if be16 f 12 = swap16 0x0800#16 then ipv4Swapped (f.drop 14)
  else if be16 f 12 = 0x0806#16 then arp (f.drop 14)
  else if be16 f 12 = swap16 0x0806#16 then arpSwapped (f.drop 14)
  else unknown (be16 f 12)

/-- ARP_OPCODE (R93, R95, R190): the key is `be16(p, 6)`, strictly big-endian; `sha`, `spa`, `tpa` are read, the rest ignored. -/
def caseArp {α : Type} (p : Octets) (malformed : α) (request : Mac → Word32 → Word32 → α)
    (other : Word16 → Mac → Word32 → Word32 → α) : α :=
  if p.length < 28 then malformed
  else if be16 p 6 = 1#16 then request (macAt p 8) (be32 p 14) (be32 p 24)
  else other (be16 p 6) (macAt p 8) (be32 p 14) (be32 p 24)

/-- `IHL * 4`: the header length in octets, 0 to 60 (R97). -/
def ipHeaderLength (b : Octets) : Nat := (octetAt b 0).toNat % 16 * 4

/-- IP_PROTOCOL (R96 to R98, R210, R211): the key is `b[9]`; source address and payload from `IHL*4` on are handed up. -/
def caseIp {α : Type} (b : Octets) (malformed : α) (icmp tcp udp : Word32 → Octets → α) (unknown : Octet → α) : α :=
  if b.length < 20 then malformed
  else if b.length < ipHeaderLength b then malformed
  else if octetAt b 9 = 1#8 then icmp (be32 b 12) (b.drop (ipHeaderLength b))
  else if octetAt b 9 = 17#8 then udp (be32 b 12) (b.drop (ipHeaderLength b))
  else if octetAt b 9 = 6#8 then tcp (be32 b 12) (b.drop (ipHeaderLength b))
  else unknown (octetAt b 9)

/-- ICMP_TYPE (R99, R100, R241): the key is `b[0]`; length and sequence are read, code, checksum and id ignored. -/
def caseIcmp {α : Type} (b : Octets) (malformed : α) (echoReply : Nat → Word16 → α) (other : Octet → α) : α :=
  if b.length < 8 then malformed
  else if octetAt b 0 = 0#8 then echoReply b.length (be16 b 6)
  else other (octetAt b 0)

/-- UDP_DPORT (R101, R102, R250, R251): the key is `be16(b, 2)`; source port, length and checksum are ignored. -/
def caseUdp {α : Type} (b : Octets) (malformed : α) (dhcp : Octets → α) (other : Word16 → α) : α :=
  if b.length < 8 then malformed
  else if be16 b 2 = 68#16 then dhcp (b.drop 8)
  else other (be16 b 2)

/-- DHCP_OPTION (R109, R110, R160): the key is the option's first octet. An arm other than the end option is also handed the
octets after the option. `stop` is every silent end of the walk: no octet left, no room for the length, value cut short. -/
def caseOption {α : Type} (b : Octets) (stop : α) (pad : Octets → α) (theEnd : α) (subnetMask router : Octets → Octets → α)
    (other : Octet → Octets → Octets → α) : α :=
  match b with
  | [] => stop
  | code :: rest =>
    if code = 255#8 then theEnd
    else if code = 0#8 then pad rest
    else
      match rest with
      | [] => stop
      | n :: body =>
        if body.length < n.toNat then stop
        else if code = 1#8 then subnetMask (body.take n.toNat) (body.drop n.toNat)
        else if code = 3#8 then router (body.take n.toNat) (body.drop n.toNat)
        else other code (body.take n.toNat) (body.drop n.toNat)

/-- The TCP header length in octets, `(b[12] >> 4) * 4`, 0 to 60 (R105). -/
def tcpHeaderLength (b : Octets) : Nat := (octetAt b 12).toNat / 16 * 4

/-- `ParseTcp(b)` (R291) with the length checks of R292; `none` is `Drop(MalformedPacket)`. -/
def parseTcp (b : Octets) : Option TcpSeg :=
  if b.length < 20 then none
  else if b.length < tcpHeaderLength b then none
  else some
    { srcPort := be16 b 0
      dstPort := be16 b 2
      seq := be32 b 4
      ack := be32 b 8
      flags := octetAt b 13
      window := be16 b 14
      data := b.drop (tcpHeaderLength b) }

/-- TCP_STATE_FLAGS with no record found (R107, R297): the SYN bit alone decides. -/
def caseNoConn {α : Type} (seg : TcpSeg) (syn other : α) : α := if hasSyn seg.flags then syn else other

/-- TCP_STATE_FLAGS with a record found (R107, R298): which row a segment selects in each state. In `ESTABLISHED` the data row
comes first and goes on to the FIN row itself. -/
def caseState {α : Type} (st : TcpState) (seg : TcpSeg)
    (listenSyn synSentSynack synReceivedAck establishedData establishedFin finWait1Ack finWait2Fin lastAckAck timeWaitAny
      noAction : α) : α :=
  match st with
  | .closed => noAction
  | .listen => if hasSyn seg.flags then listenSyn else noAction
  | .synSent => if hasSyn seg.flags && hasAck seg.flags then synSentSynack else noAction
  | .synReceived => if hasAck seg.flags then synReceivedAck else noAction
  | .established => if !seg.data.isEmpty then establishedData else if hasFin seg.flags then establishedFin else noAction
  | .finWait1 => if hasAck seg.flags then finWait1Ack else noAction
  | .finWait2 => if hasFin seg.flags then finWait2Fin else noAction
  | .closeWait => noAction
  | .closing => noAction
  | .lastAck => if hasAck seg.flags then lastAckAck else noAction
  | .timeWait => timeWaitAny

/-! ### The decoder -/

/-- The command table of R111: the code selects the command, the operands must have the shapes R111 gives. -/
def decodeCommand (code : Octet) (args : List Operand) : Except DecodeError Instr :=
  match code.toNat with
  | 0x01 => match args with
    | [.mac m, .half t, .octets p] => .ok (.ethSend m t p)
    | _ => .error .wrongOperands
  | 0x02 => match args with
    | [.addr ip] => .ok (.arpResolve ip)
    | _ => .error .wrongOperands
  | 0x03 => match args with
    | [.addr ip] => .ok (.arpRequest ip)
    | _ => .error .wrongOperands
  | 0x04 => match args with
    | [.addr ip, .octet proto, .octets p] => .ok (.ipSend ip proto p)
    | _ => .error .wrongOperands
  | 0x05 => match args with
    | [.addr ip, .half i, .half n] => .ok (.icmpEcho ip i n)
    | _ => .error .wrongOperands
  | 0x06 => match args with
    | [.addr ip, .half sp, .half dp, .octets p] => .ok (.udpSend ip sp dp p)
    | _ => .error .wrongOperands
  | 0x07 => match args with
    | [] => .ok .dhcpDiscover
    | _ => .error .wrongOperands
  | 0x10 => match args with
    | [] => .ok .ipGetIp
    | _ => .error .wrongOperands
  | 0x11 => match args with
    | [] => .ok .ipGetGateway
    | _ => .error .wrongOperands
  | 0x12 => match args with
    | [] => .ok .ipGetNetmask
    | _ => .error .wrongOperands
  | 0x13 => match args with
    | [.addr v] => .ok (.ipSetIp v)
    | _ => .error .wrongOperands
  | 0x14 => match args with
    | [.addr v] => .ok (.ipSetGateway v)
    | _ => .error .wrongOperands
  | 0x15 => match args with
    | [.addr v] => .ok (.ipSetNetmask v)
    | _ => .error .wrongOperands
  | 0x20 => match args with
    | [.half port] => .ok (.tcpListen port)
    | _ => .error .wrongOperands
  | 0x21 => match args with
    | [.handle h] => .ok (.tcpAccept h)
    | _ => .error .wrongOperands
  | 0x22 => match args with
    | [.handle h, .octets d] => .ok (.tcpSend h d)
    | _ => .error .wrongOperands
  | 0x23 => match args with
    | [.handle h, .size n] => .ok (.tcpRecv h n)
    | _ => .error .wrongOperands
  | 0x24 => match args with
    | [.handle h] => .ok (.tcpClose h)
    | _ => .error .wrongOperands
  | 0x25 => match args with
    | [.addr ip, .half port] => .ok (.tcpConnect ip port)
    | _ => .error .wrongOperands
  | _ => .error .unknownCommandCode

/-- The instruction a received frame starts with (R92, R170 to R172). -/
def decodeFrame (f : Octets) (now : Nat) : Except DecodeError Instr :=
  caseFrame f (.error .malformedPacket) (fun p => .ok (.ethRxIpv4 p now)) (fun p => .ok (.ethRxIpv4Swapped p now))
    (fun p => .ok (.ethRxArp p)) (fun p => .ok (.ethRxArpSwapped p)) (fun t => .ok (.ethRxUnknown t))

/-- The instruction of an ARP packet (R95, R190). -/
def decodeArp (p : Octets) : Except DecodeError Instr :=
  caseArp p (.error .malformedPacket) (fun sha spa tpa => .ok (.arpRxRequest sha spa tpa))
    (fun op sha spa tpa => .ok (.arpRxOther op sha spa tpa))

/-- The instruction of an IPv4 packet (R98, R210). -/
def decodeIp (b : Octets) (now : Nat) : Except DecodeError Instr :=
  caseIp b (.error .malformedPacket) (fun src p => .ok (.ipRxIcmp src p)) (fun src p => .ok (.ipRxTcp src p now))
    (fun src p => .ok (.ipRxUdp src p)) (fun proto => .ok (.ipRxUnknown proto))

/-- The instruction of an ICMP message (R100, R241). -/
def decodeIcmp (src : Word32) (b : Octets) : Except DecodeError Instr :=
  caseIcmp b (.error .malformedPacket) (fun n q => .ok (.icmpRxEchoReply src n q)) (fun t => .ok (.icmpRxOther t))

/-- The instruction of a UDP datagram (R102, R250). -/
def decodeUdp (b : Octets) : Except DecodeError Instr :=
  caseUdp b (.error .malformedPacket) (fun p => .ok (.udpRxDhcpClient p)) (fun port => .ok (.udpRxOther port))

/-- The instruction of the option at the head of a stream (R110, R160). -/
def decodeOption (b : Octets) : Except DecodeError Instr :=
  caseOption b (.error .noOption) (fun _ => .ok .dhcpOptPad) (.ok .dhcpOptEnd) (fun v _ => .ok (.dhcpOptSubnetMask v))
    (fun v _ => .ok (.dhcpOptRouter v)) (fun c v _ => .ok (.dhcpOptOther c v))

/-- The instruction a parsed segment selects, given the state found (R107). -/
def instrOfSegment (found : Option TcpState) (src : Word32) (seg : TcpSeg) (now : Nat) : Instr :=
  match found with
  | none => caseNoConn seg (.tcpRxNoconnSyn src seg now) (.tcpRxNoconnOther src seg)
  | some st =>
    caseState st seg (.tcpRxListenSyn src seg) (.tcpRxSynSentSynack src seg) (.tcpRxSynReceivedAck src seg)
      (.tcpRxEstablishedData src seg) (.tcpRxEstablishedFin src seg) (.tcpRxFinWait1Ack src seg) (.tcpRxFinWait2Fin src seg)
      (.tcpRxLastAckAck src seg) (.tcpRxTimeWaitAny src seg) (.tcpRxNoAction st src seg)

/-- The instruction of a TCP segment, given the state of the record its lookup finds (R107, R290). -/
def decodeTcp (found : Option TcpState) (src : Word32) (b : Octets) (now : Nat) : Except DecodeError Instr :=
  match parseTcp b with
  | none => .error .malformedPacket
  | some seg => .ok (instrOfSegment found src seg now)

/-- The decoder: from an encoded instruction of any format to its instruction, or a rejection by name. -/
def decode : Encoded → Except DecodeError Instr
  | .ethertype f now => decodeFrame f now
  | .arpOpcode p => decodeArp p
  | .ipProtocol b now => decodeIp b now
  | .icmpType src b => decodeIcmp src b
  | .udpDport _ b => decodeUdp b
  | .dhcpOption b => decodeOption b
  | .tcpStateFlags found src b now => decodeTcp found src b now
  | .cmd code args _ => decodeCommand code args

/-- What an event hands the decoder: a frame to ETH.RX, a command to the command port (R17). -/
def Event.encoded : Event → Encoded
  | .rx f now => .ethertype f now
  | .cmd code args now => .cmd code args now

/-- The instruction an event starts (R17: "Each event starts exactly one operation"). -/
def decodeEvent (e : Event) : Except DecodeError Instr := decode e.encoded

/-- `TlvWalk(b, off)` (R160): the options delivered, as `(code, len, value)`. The walk starts at offset `off`; every turn takes
at least one octet, so as many turns as there are octets are enough (R161 a). -/
def tlvWalkFrom : Nat → Octets → List (Octet × Nat × Octets)
  | 0, _ => []
  | fuel + 1, b =>
    caseOption b [] (fun rest => tlvWalkFrom fuel rest) []
      (fun v rest => (1#8, v.length, v) :: tlvWalkFrom fuel rest) (fun v rest => (3#8, v.length, v) :: tlvWalkFrom fuel rest)
      (fun c v rest => (c, v.length, v) :: tlvWalkFrom fuel rest)

/-- `TlvWalk(b, off)` (R160). -/
def tlvWalk (b : Octets) (off : Nat) : List (Octet × Nat × Octets) := tlvWalkFrom b.length (b.drop off)

/-! ### The rows of the table -/

/-- A row of spec/opcode_table.json: the arm is selected when `key & mask = match` (R117). -/
structure Row where
  format : Format
  value  : Nat
  mask   : Nat
  deriving DecidableEq, Repr

/-- The row each instruction stands for: format, match and mask of spec/opcode_table.json. -/
def Instr.row : Instr → Row
  | .ethRxIpv4 _ _ => ⟨.ethertype, 0x800, 0xFFFF⟩
  | .ethRxIpv4Swapped _ _ => ⟨.ethertype, 0x8, 0xFFFF⟩
  | .ethRxArp _ => ⟨.ethertype, 0x806, 0xFFFF⟩
  | .ethRxArpSwapped _ => ⟨.ethertype, 0x608, 0xFFFF⟩
  | .ethRxUnknown _ => ⟨.ethertype, 0x0, 0x0⟩
  | .arpRxRequest _ _ _ => ⟨.arpOpcode, 0x1, 0xFFFF⟩
  | .arpRxOther _ _ _ _ => ⟨.arpOpcode, 0x0, 0x0⟩
  | .ipRxIcmp _ _ => ⟨.ipProtocol, 0x1, 0xFF⟩
  | .ipRxTcp _ _ _ => ⟨.ipProtocol, 0x6, 0xFF⟩
  | .ipRxUdp _ _ => ⟨.ipProtocol, 0x11, 0xFF⟩
  | .ipRxUnknown _ => ⟨.ipProtocol, 0x0, 0x0⟩
  | .icmpRxEchoReply _ _ _ => ⟨.icmpType, 0x0, 0xFF⟩
  | .icmpRxOther _ => ⟨.icmpType, 0x0, 0x0⟩
  | .udpRxDhcpClient _ => ⟨.udpDport, 0x44, 0xFFFF⟩
  | .udpRxOther _ => ⟨.udpDport, 0x0, 0x0⟩
  | .dhcpOptPad => ⟨.dhcpOption, 0x0, 0xFF⟩
  | .dhcpOptEnd => ⟨.dhcpOption, 0xFF, 0xFF⟩
  | .dhcpOptSubnetMask _ => ⟨.dhcpOption, 0x1, 0xFF⟩
  | .dhcpOptRouter _ => ⟨.dhcpOption, 0x3, 0xFF⟩
  | .dhcpOptOther _ _ => ⟨.dhcpOption, 0x0, 0x0⟩
  | .tcpRxNoconnSyn _ _ _ => ⟨.tcpStateFlags, 0xF02, 0xF02⟩
  | .tcpRxNoconnOther _ _ => ⟨.tcpStateFlags, 0xF00, 0xF00⟩
  | .tcpRxListenSyn _ _ => ⟨.tcpStateFlags, 0x102, 0xF02⟩
  | .tcpRxSynSentSynack _ _ => ⟨.tcpStateFlags, 0x212, 0xF12⟩
  | .tcpRxSynReceivedAck _ _ => ⟨.tcpStateFlags, 0x310, 0xF10⟩
  | .tcpRxEstablishedData _ _ => ⟨.tcpStateFlags, 0x400, 0xF00⟩
  | .tcpRxEstablishedFin _ _ => ⟨.tcpStateFlags, 0x401, 0xF01⟩
  | .tcpRxFinWait1Ack _ _ => ⟨.tcpStateFlags, 0x510, 0xF10⟩
  | .tcpRxFinWait2Fin _ _ => ⟨.tcpStateFlags, 0x601, 0xF01⟩
  | .tcpRxLastAckAck _ _ => ⟨.tcpStateFlags, 0x910, 0xF10⟩
  | .tcpRxTimeWaitAny _ _ => ⟨.tcpStateFlags, 0xA00, 0xF00⟩
  | .tcpRxNoAction _ _ _ => ⟨.tcpStateFlags, 0x0, 0x0⟩
  | .ethSend _ _ _ => ⟨.cmd, 0x1, 0xFF⟩
  | .arpResolve _ => ⟨.cmd, 0x2, 0xFF⟩
  | .arpRequest _ => ⟨.cmd, 0x3, 0xFF⟩
  | .ipSend _ _ _ => ⟨.cmd, 0x4, 0xFF⟩
  | .icmpEcho _ _ _ => ⟨.cmd, 0x5, 0xFF⟩
  | .udpSend _ _ _ _ => ⟨.cmd, 0x6, 0xFF⟩
  | .dhcpDiscover => ⟨.cmd, 0x7, 0xFF⟩
  | .ipGetIp => ⟨.cmd, 0x10, 0xFF⟩
  | .ipGetGateway => ⟨.cmd, 0x11, 0xFF⟩
  | .ipGetNetmask => ⟨.cmd, 0x12, 0xFF⟩
  | .ipSetIp _ => ⟨.cmd, 0x13, 0xFF⟩
  | .ipSetGateway _ => ⟨.cmd, 0x14, 0xFF⟩
  | .ipSetNetmask _ => ⟨.cmd, 0x15, 0xFF⟩
  | .tcpListen _ => ⟨.cmd, 0x20, 0xFF⟩
  | .tcpAccept _ => ⟨.cmd, 0x21, 0xFF⟩
  | .tcpSend _ _ => ⟨.cmd, 0x22, 0xFF⟩
  | .tcpRecv _ _ => ⟨.cmd, 0x23, 0xFF⟩
  | .tcpClose _ => ⟨.cmd, 0x24, 0xFF⟩
  | .tcpConnect _ _ => ⟨.cmd, 0x25, 0xFF⟩

/-- The dispatch key of an encoded instruction (R117). 15 stands for "no connection found". -/
def Encoded.key : Encoded → Nat
  | .ethertype f _ => (be16 f 12).toNat
  | .arpOpcode p => (be16 p 6).toNat
  | .ipProtocol b _ => (octetAt b 9).toNat
  | .icmpType _ b => (octetAt b 0).toNat
  | .udpDport _ b => (be16 b 2).toNat
  | .dhcpOption b => (octetAt b 0).toNat
  | .tcpStateFlags none _ b _ => 15 * 256 + (octetAt b 13).toNat
  | .tcpStateFlags (some st) _ b _ => st.code * 256 + (octetAt b 13).toNat
  | .cmd code _ _ => code.toNat

/-! ### The encoder -/

/-- An Ethernet header with this type, its ignored addresses zero, then the payload (R91). -/
def encodeFrame (ethertype : Word16) (payload : Octets) : Octets := zeros 12 ++ put16 ethertype ++ payload

/-- An ARP packet with these fields; the fixed fields as R93 gives them, the ignored target MAC zero, no padding. -/
def encodeArp (opcode : Word16) (sha : Mac) (spa tpa : Word32) : Octets :=
  put16 1#16 ++ put16 0x0800#16 ++ [6#8, 4#8] ++ put16 opcode ++ sha.octets ++ put32 spa ++ zeros 6 ++ put32 tpa

/-- An IPv4 packet with a 20-octet header (R96), the ignored fields zero. -/
def encodeIp (protocol : Octet) (src : Word32) (payload : Octets) : Octets :=
  [0x45#8] ++ zeros 8 ++ [protocol] ++ zeros 2 ++ put32 src ++ zeros 4 ++ payload

/-- An ICMP message of `n` octets (R99), the ignored fields and the payload zero. -/
def encodeIcmp (icmpType : Octet) (sequence : Word16) (n : Nat) : Octets :=
  [icmpType] ++ zeros 5 ++ put16 sequence ++ zeros (n - 8)

/-- A UDP datagram (R101), the ignored fields zero. -/
def encodeUdp (destPort : Word16) (payload : Octets) : Octets := zeros 2 ++ put16 destPort ++ zeros 4 ++ payload

/-- A TCP segment with a 20-octet header (R103), checksum and urgent pointer zero. -/
def encodeSegment (seg : TcpSeg) : Octets :=
  put16 seg.srcPort ++ put16 seg.dstPort ++ put32 seg.seq ++ put32 seg.ack ++ [0x50#8, seg.flags] ++ put16 seg.window
    ++ zeros 4 ++ seg.data

/-- The encoder: an encoding of a well-formed instruction, from the tables of spec/30_encoding.md. What the arm does not read
is written as zero. -/
def encode : Instr → Encoded
  | .ethRxIpv4 p now => .ethertype (encodeFrame 0x0800#16 p) now
  | .ethRxIpv4Swapped p now => .ethertype (encodeFrame 0x0008#16 p) now
  | .ethRxArp p => .ethertype (encodeFrame 0x0806#16 p) 0
  | .ethRxArpSwapped p => .ethertype (encodeFrame 0x0608#16 p) 0
  | .ethRxUnknown t => .ethertype (encodeFrame t []) 0
  | .arpRxRequest sha spa tpa => .arpOpcode (encodeArp 1#16 sha spa tpa)
  | .arpRxOther op sha spa tpa => .arpOpcode (encodeArp op sha spa tpa)
  | .ipRxIcmp src p => .ipProtocol (encodeIp 1#8 src p) 0
  | .ipRxTcp src p now => .ipProtocol (encodeIp 6#8 src p) now
  | .ipRxUdp src p => .ipProtocol (encodeIp 17#8 src p) 0
  | .ipRxUnknown proto => .ipProtocol (encodeIp proto 0 []) 0
  | .icmpRxEchoReply src n q => .icmpType src (encodeIcmp 0#8 q n)
  | .icmpRxOther t => .icmpType 0 (encodeIcmp t 0 8)
  | .udpRxDhcpClient p => .udpDport 0 (encodeUdp 68#16 p)
  | .udpRxOther port => .udpDport 0 (encodeUdp port [])
  | .dhcpOptPad => .dhcpOption [0#8]
  | .dhcpOptEnd => .dhcpOption tlvEnd
  | .dhcpOptSubnetMask v => .dhcpOption (tlvEncode 1#8 v)
  | .dhcpOptRouter v => .dhcpOption (tlvEncode 3#8 v)
  | .dhcpOptOther c v => .dhcpOption (tlvEncode c v)
  | .tcpRxNoconnSyn src seg now => .tcpStateFlags none src (encodeSegment seg) now
  | .tcpRxNoconnOther src seg => .tcpStateFlags none src (encodeSegment seg) 0
  | .tcpRxListenSyn src seg => .tcpStateFlags (some .listen) src (encodeSegment seg) 0
  | .tcpRxSynSentSynack src seg => .tcpStateFlags (some .synSent) src (encodeSegment seg) 0
  | .tcpRxSynReceivedAck src seg => .tcpStateFlags (some .synReceived) src (encodeSegment seg) 0
  | .tcpRxEstablishedData src seg => .tcpStateFlags (some .established) src (encodeSegment seg) 0
  | .tcpRxEstablishedFin src seg => .tcpStateFlags (some .established) src (encodeSegment seg) 0
  | .tcpRxFinWait1Ack src seg => .tcpStateFlags (some .finWait1) src (encodeSegment seg) 0
  | .tcpRxFinWait2Fin src seg => .tcpStateFlags (some .finWait2) src (encodeSegment seg) 0
  | .tcpRxLastAckAck src seg => .tcpStateFlags (some .lastAck) src (encodeSegment seg) 0
  | .tcpRxTimeWaitAny src seg => .tcpStateFlags (some .timeWait) src (encodeSegment seg) 0
  | .tcpRxNoAction found src seg => .tcpStateFlags (some found) src (encodeSegment seg) 0
  | .ethSend m t p => .cmd 0x01#8 [.mac m, .half t, .octets p] 0
  | .arpResolve ip => .cmd 0x02#8 [.addr ip] 0
  | .arpRequest ip => .cmd 0x03#8 [.addr ip] 0
  | .ipSend ip proto p => .cmd 0x04#8 [.addr ip, .octet proto, .octets p] 0
  | .icmpEcho ip i n => .cmd 0x05#8 [.addr ip, .half i, .half n] 0
  | .udpSend ip sp dp p => .cmd 0x06#8 [.addr ip, .half sp, .half dp, .octets p] 0
  | .dhcpDiscover => .cmd 0x07#8 [] 0
  | .ipGetIp => .cmd 0x10#8 [] 0
  | .ipGetGateway => .cmd 0x11#8 [] 0
  | .ipGetNetmask => .cmd 0x12#8 [] 0
  | .ipSetIp v => .cmd 0x13#8 [.addr v] 0
  | .ipSetGateway v => .cmd 0x14#8 [.addr v] 0
  | .ipSetNetmask v => .cmd 0x15#8 [.addr v] 0
  | .tcpListen port => .cmd 0x20#8 [.half port] 0
  | .tcpAccept h => .cmd 0x21#8 [.handle h] 0
  | .tcpSend h d => .cmd 0x22#8 [.handle h, .octets d] 0
  | .tcpRecv h n => .cmd 0x23#8 [.handle h, .size n] 0
  | .tcpClose h => .cmd 0x24#8 [.handle h] 0
  | .tcpConnect ip port => .cmd 0x25#8 [.addr ip, .half port] 0

/-! ### Table words -/

/-- The operands of a command, every one zero or empty, by its code (R111). -/
def zeroOperands (code : Nat) : List Operand :=
  match code with
  | 0x01 => [.mac zeroMac, .half 0, .octets []]
  | 0x02 => [.addr 0]
  | 0x03 => [.addr 0]
  | 0x04 => [.addr 0, .octet 0, .octets []]
  | 0x05 => [.addr 0, .half 0, .half 0]
  | 0x06 => [.addr 0, .half 0, .half 0, .octets []]
  | 0x13 => [.addr 0]
  | 0x14 => [.addr 0]
  | 0x15 => [.addr 0]
  | 0x20 => [.half 0]
  | 0x21 => [.handle 0]
  | 0x22 => [.handle 0, .octets []]
  | 0x23 => [.handle 0, .size 0]
  | 0x24 => [.handle 0]
  | 0x25 => [.addr 0, .half 0]
  | _ => []

/-- The codes of R111: 0x01 to 0x07, 0x10 to 0x15, 0x20 to 0x25. -/
def isCommandCode (w : Nat) : Bool :=
  (1 ≤ w && w ≤ 7) || (0x10 ≤ w && w ≤ 0x15) || (0x20 ≤ w && w ≤ 0x25)

/-- The state of a code of R31; 15 and the unused codes have none. -/
def stateOfCode (n : Nat) : Option TcpState :=
  match n with
  | 0 => some .closed
  | 1 => some .listen
  | 2 => some .synSent
  | 3 => some .synReceived
  | 4 => some .established
  | 5 => some .finWait1
  | 6 => some .finWait2
  | 7 => some .closeWait
  | 8 => some .closing
  | 9 => some .lastAck
  | 10 => some .timeWait
  | _ => none

/-- A TCP segment of zeros with these flags; one zero octet of data where the state is ESTABLISHED and FIN is clear, since
there the row needs data (R107). -/
def tableSegment (code : Nat) (flags : Octet) : Octets :=
  encodeSegment ⟨0, 0, 0, 0, flags, 0, if code == 4 && !hasFin flags then [0#8] else []⟩

/-- The encoded instruction whose key is a word of the table, every other octet zero but where a length is needed (R117). The keys
of the eight formats share one number space, so a bare word can name rows of several formats: an 8-bit word is a command
code where R111 has it, else 0 is the ICMP type and 255 the end option; a 16-bit word is one of the four EtherTypes, the ARP
opcode 1, the UDP port 68, else a state code and flags, else an unknown EtherType (log 14). -/
def tableEncoded (nbits w : Nat) : Option Encoded :=
  if nbits ≤ 8 then
    if isCommandCode w then some (.cmd (BitVec.ofNat 8 w) (zeroOperands w) 0)
    else if w == 0 then some (.icmpType 0 (zeros 8))
    else if w == 255 then some (.dhcpOption [255#8])
    else none
  else if nbits ≤ 16 then
    if isKnownEtherType (BitVec.ofNat 16 w) then some (.ethertype (encodeFrame (BitVec.ofNat 16 w) []) 0)
    else if w == 1 then some (.arpOpcode (zeros 6 ++ put16 1#16 ++ zeros 20))
    else if w == 68 then some (.udpDport 0 (encodeUdp 68#16 []))
    else if w < 4096 && (w / 256 ≤ 10 || w / 256 == 15) then
      some (.tcpStateFlags (stateOfCode (w / 256)) 0 (tableSegment (w / 256) (BitVec.ofNat 8 w)) 0)
    else some (.ethertype (encodeFrame (BitVec.ofNat 16 w) []) 0)
  else none

/-- The instruction the decoder reads from a table word. -/
def decodeTableWord (nbits w : Nat) : Option Instr :=
  (tableEncoded nbits w).bind fun e => (decode e).toOption

/-- A received frame that brings an encoded receive instruction to its dispatcher, through the layers below it; a command is
its own event. `station` is the station's MAC, which a DHCP message must carry to have its options walked (R265); its `yiaddr` is
255.255.255.255, any address but 0. -/
def Encoded.carrier (station : Mac) : Encoded → Event
  | .ethertype f now => .rx f now
  | .arpOpcode p => .rx (encodeFrame 0x0806#16 p) 0
  | .ipProtocol b now => .rx (encodeFrame 0x0800#16 b) now
  | .icmpType src b => .rx (encodeFrame 0x0800#16 (encodeIp 1#8 src b)) 0
  | .udpDport src b => .rx (encodeFrame 0x0800#16 (encodeIp 17#8 src b)) 0
  | .dhcpOption b =>
    .rx (encodeFrame 0x0800#16 (encodeIp 17#8 0 (encodeUdp 68#16
      (zeros 16 ++ put32 0xffffffff#32 ++ zeros 8 ++ station.octets ++ zeros 206 ++ b)))) 0
  | .tcpStateFlags _ src b now => .rx (encodeFrame 0x0800#16 (encodeIp 6#8 src b)) now
  | .cmd code args now => .cmd code args now

end Sys2Proof
end

