-- ==== Sys2Proof/Config.lean ====
section
/-! DEFINITION. What the implementation fixes and the spec leaves open: the parameters of spec/00_scope.md R10 and the
two draws `ISN` and `TxAlloc`. Every operation of the model takes a `Config`; `Config.chip` is the machine's own, made of
opaque constants, so that nothing proved of the machine rests on a value (log 3, 4, 5). -/

namespace Sys2Proof

/-- "each octet an ASCII letter" (R10, `ICMP_PAYLOAD`). -/
def isAsciiLetter (o : Octet) : Bool :=
  (65 ≤ o.toNat && o.toNat ≤ 90) || (97 ≤ o.toNat && o.toNat ≤ 122)

/-- The 52 ASCII letters, numbered: `A` to `Z`, then `a` to `z`. -/
def asciiLetter (k : Fin 52) : Octet :=
  if k.val < 26 then BitVec.ofNat 8 (65 + k.val) else BitVec.ofNat 8 (71 + k.val)

/-- The parameters R10 leaves open, each under the constraint R10 states, and the two draws as functions of the number of
the draw. -/
structure Config where
  /-- `OWN_MAC`: the station's MAC address, constant for a run (R21, R395). -/
  ownMac : Mac
  /-- `RXBUF_CAP`: capacity of every receive ring. -/
  rxbufCap : Nat
  rxbufCap_pos : 1 ≤ rxbufCap
  /-- `MAX_CONN`: capacity of the connection table; `none` is "infinite". -/
  maxConn : Option Nat
  maxConn_pos : ∀ n, maxConn = some n → 1 ≤ n
  /-- `TCP_WINDOW`: the advertised window. -/
  tcpWindow : Word16
  /-- `SEND_WINDOW_INIT`: the send window of a new record, in octets. -/
  sendWindowInit : Nat
  sendWindowInit_le : sendWindowInit ≤ 65495
  /-- `TICKS_PER_SECOND`: ticks of `now` in the one-second SYN bucket. -/
  ticksPerSecond : Nat
  ticksPerSecond_pos : 1 ≤ ticksPerSecond
  /-- `RTO_INIT`. -/
  rtoInit : Nat
  /-- `ICMP_PAYLOAD`: the 32 letters of an echo request. -/
  icmpPayload : Octets
  icmpPayload_length : icmpPayload.length = 32
  icmpPayload_letters : ∀ o ∈ icmpPayload, isAsciiLetter o = true
  /-- `DHCP_XID`. -/
  dhcpXid : Word32
  /-- `DHCP_FLAGS`. -/
  dhcpFlags : Word16
  /-- `DHCP_PRL`: the parameter request list, 1 to 255 octets. -/
  dhcpPrl : Octets
  dhcpPrl_pos : 1 ≤ dhcpPrl.length
  dhcpPrl_le : dhcpPrl.length ≤ 255
  /-- `DHCP_POLL_BUDGET`: read by the host's discover loop only (R271); no operation of the block reads it. -/
  dhcpPollBudget : Nat
  /-- The draw `ISN`: the answer to the draw with this number (R295, U7). -/
  isn : Nat → Word32
  /-- The draw `TxAlloc(n)`: the answer to the draw with this number, for a buffer of `n` octets (R176, U8). -/
  txAlloc : Nat → Nat → Bool

/-- `OWN_MAC` of the chip: any MAC address (R10, R21). No value is chosen. -/
opaque Config.ownMacValue : Mac
/-- `RXBUF_CAP` of the chip, less one: any natural number, so that the capacity is any number from 1 (R10). -/
opaque Config.rxbufCapLessOne : Nat
/-- `MAX_CONN` of the chip, less one; `none` stands for "infinite" (R10). -/
opaque Config.maxConnLessOne : Option Nat
/-- `TCP_WINDOW` of the chip: any 16-bit value (R10). -/
opaque Config.tcpWindowValue : Word16
/-- `SEND_WINDOW_INIT` of the chip: any number up to 65495 (R10). -/
opaque Config.sendWindowInitValue : Fin 65496
/-- `TICKS_PER_SECOND` of the chip, less one (R10). -/
opaque Config.ticksPerSecondLessOne : Nat
/-- `RTO_INIT` of the chip: any natural number (R10). -/
opaque Config.rtoInitValue : Nat
/-- The letters of `ICMP_PAYLOAD` of the chip: any 32 ASCII letters (R10). -/
opaque Config.icmpLetters : Fin 32 → Fin 52
/-- `DHCP_XID` of the chip: any 32-bit value (R10). -/
opaque Config.dhcpXidValue : Word32
/-- `DHCP_FLAGS` of the chip: any 16-bit value (R10). -/
opaque Config.dhcpFlagsValue : Word16
/-- The first octet of `DHCP_PRL` of the chip (R10: at least one octet). -/
opaque Config.dhcpPrlFirst : Octet
/-- The octets of `DHCP_PRL` of the chip after the first; at most 254 of them are used (R10: at most 255 octets). -/
opaque Config.dhcpPrlRest : Octets
/-- `DHCP_POLL_BUDGET`, a parameter of the host's loop (R271). -/
opaque Config.dhcpPollBudgetValue : Nat
/-- The FREE VALUE of the draw `ISN`, by the number of the draw: any 32-bit value each time (R295, U7; log 4). -/
opaque Config.isnDraw : Nat → Word32
/-- The FREE VALUE of the draw `TxAlloc(n)`, by the number of the draw and the size `n` (R176, U8; log 5). -/
opaque Config.txAllocDraw : Nat → Nat → Bool

/-- Every number up to 51 is a letter. -/
theorem isAsciiLetter_asciiLetter (k : Fin 52) : isAsciiLetter (asciiLetter k) = true := by
  revert k; decide

/-- The configuration of the machine: every parameter an opaque constant under R10's constraint. -/
def Config.chip : Config where
  ownMac := Config.ownMacValue
  rxbufCap := Config.rxbufCapLessOne + 1
  rxbufCap_pos := Nat.succ_pos _
  maxConn := Config.maxConnLessOne.map (· + 1)
  maxConn_pos := by
    intro n h
    obtain ⟨m, -, rfl⟩ := Option.map_eq_some_iff.mp h
    exact Nat.succ_pos m
  tcpWindow := Config.tcpWindowValue
  sendWindowInit := Config.sendWindowInitValue.val
  sendWindowInit_le := Nat.le_of_lt_succ Config.sendWindowInitValue.isLt
  ticksPerSecond := Config.ticksPerSecondLessOne + 1
  ticksPerSecond_pos := Nat.succ_pos _
  rtoInit := Config.rtoInitValue
  icmpPayload := List.ofFn (fun i => asciiLetter (Config.icmpLetters i))
  icmpPayload_length := List.length_ofFn
  icmpPayload_letters := by
    intro o h
    obtain ⟨i, rfl⟩ := List.mem_ofFn.mp h
    exact isAsciiLetter_asciiLetter _
  dhcpXid := Config.dhcpXidValue
  dhcpFlags := Config.dhcpFlagsValue
  dhcpPrl := Config.dhcpPrlFirst :: Config.dhcpPrlRest.take 254
  dhcpPrl_pos := Nat.succ_pos _
  dhcpPrl_le := by simp
  dhcpPollBudget := Config.dhcpPollBudgetValue
  isn := Config.isnDraw
  txAlloc := Config.txAllocDraw

end Sys2Proof
end

