-- ==== Sys2Proof/Machine/State.lean ====
section
/-! DEFINITION. The state of MesaOS-NET as plain data: the block state of spec/10_state.md R20 to R38, and the model's own fields
for the boundary (spec/60_exceptions.md R396): the events still to be delivered, the effects and results so far, and the numbers of
the draws made. -/

namespace Sys2Proof.Machine

/-- Octet storage: (offset, octet) pairs, offsets strictly rising, no entry equal to 0, the value an unlisted offset reads as
(R30: "every octet 0" at creation; log 8). The only octet storage that persists is each record's receive ring (R60, R63). -/
abbrev Memory := List Host.Cell

/-- The canonical form: offsets strictly rising, no entry that reads as an unlisted offset does. -/
abbrev Memory.wf (m : Memory) : Prop := m.Pairwise (fun x y => x.1 < y.1) ∧ ∀ x ∈ m, x.2 ≠ 0#8

/-- `arp_cache`: "one record {ip, mac}", with no valid bit (R25). -/
structure ArpCacheEntry where
  ip  : Word32
  mac : Mac
  deriving DecidableEq, Repr

/-- A TcpConnection record (R30). -/
structure Conn where
  /-- `c.handle` (R28): never reused. -/
  handle : Nat
  localIp : Word32
  remoteIp : Word32
  localPort : Word16
  remotePort : Word16
  /-- `c.state` (R31). -/
  state : TcpState
  /-- `c.seq_number`: the next sequence number to send. -/
  seqNumber : Word32
  /-- `c.ack_number`: the next sequence number expected. -/
  ackNumber : Word32
  /-- `c.send_window_start`: octets of data sent so far (R33). -/
  sendWindowStart : Nat
  /-- `c.send_window_end`: a count of octets, fixed at creation (R33). -/
  sendWindowEnd : Nat
  recvWindowStart : Word32
  recvWindowEnd : Word32
  /-- `c.recv_buf`: the octets of the ring (R32). -/
  recvBuf : Memory
  /-- `c.recv_start`: offset of the oldest unread octet. -/
  recvStart : Nat
  /-- `c.recv_end`: offset where the next octet is stored. -/
  recvEnd : Nat
  /-- `c.recv_count`: how many octets are unread. -/
  recvCount : Nat
  lastAckTime : Nat
  rto : Nat
  retransmitCount : Nat
  synTimestamp : Nat
  synCookieEnabled : Bool
  deriving DecidableEq, Repr

/-- Levels of the logging sink, `info/warn/error` (R394). The block never uses `error`. -/
inductive LogLevel where
  | info
  | warn
  | error
  deriving DecidableEq, Repr

/-- The tag and fields of a log record (R394). -/
inductive LogEntry where
  /-- `IcmpEchoReply, src_ip, nbytes, seq` (R241). -/
  | icmpEchoReply (srcIp : Word32) (nbytes : Nat) (sequence : Word16)
  /-- `SynFlood, src_ip, dst_port` (R297). -/
  | synFlood (srcIp : Word32) (dstPort : Word16)
  deriving DecidableEq, Repr

/-- An effect (R16, R19): a frame handed to the transport, or a record handed to the logging sink. -/
inductive Effect where
  | tx  (frame : Octets)
  | log (level : LogLevel) (entry : LogEntry)
  deriving DecidableEq, Repr

/-- The value a host command returns (R111, R112); `failure` is "-1". -/
inductive RetVal where
  | nothing
  | mac      (m : Mac)
  | word     (v : Word32)
  | handle   (h : Nat)
  | count    (n : Nat)
  | accepted (handle : Nat) (peerIp : Word32) (peerPort : Word16)
  | received (count : Nat) (octets : Octets)
  | failure
  deriving DecidableEq, Repr

/-- The result of an event (R17): of a receive event, a drop reason or `None` (R380); of a command, its value (R384). -/
inductive Result where
  | rx  (reason : Option DropReason)
  | ret (value : RetVal)
  deriving DecidableEq, Repr

/-- The state of the machine. The first nine fields are the block's (R20); the last five are the model's, for the boundary
(log 1, 2, 4, 5). -/
structure State where
  /-- `own_ip` (R22). -/
  ownIp : Word32
  /-- `gateway_ip` (R22). -/
  gatewayIp : Word32
  /-- `netmask` (R22). -/
  netmask : Word32
  /-- `arp_cache` (R25). -/
  arpCache : ArpCacheEntry
  /-- `next_ephemeral` (R26). -/
  nextEphemeral : Word16
  /-- `syn_count` (R27). -/
  synCount : Nat
  /-- `syn_bucket_start` (R27). -/
  synBucketStart : Nat
  /-- `next_handle` (R28). -/
  nextHandle : Nat
  /-- `conn_table` (R29): the records in the order of their creation, so handles rise (log 9). -/
  connTable : List Conn
  /-- The events the environment delivers next, oldest first (R17, R77; log 1). -/
  pending : List Event
  /-- Every effect emitted so far, oldest first (R76; log 2). -/
  effects : List Effect
  /-- The results of the events taken so far, oldest first (R17; log 2). -/
  results : List Result
  /-- How many `ISN` draws have been made (R295; log 4). -/
  isnDraws : Nat
  /-- How many `TxAlloc` draws have been made (R176; log 5). -/
  txDraws : Nat
  deriving DecidableEq, Repr

/-- Nothing stops the block: "no layer ever blocks or panics on malformed/unexpected input" (R402); a drop is the result of an
event and not a stop (R380, R388). So there is no fault and this type has no constructor (safe: nothing raises one). -/
inductive Fault where
  deriving DecidableEq, Repr

/-- The events to which the spec gives no meaning ("refuse" in section 1 of spec/93_implementation_defined.md). All are SAFE: the
model stops where the spec states no theorem. -/
inductive Refusal where
  /-- Raised by `exec` for an instruction that has no meaning yet; no arm is left with it. Safe. -/
  | notModelled (mnemonic : String)
  /-- Raised by `step` for a command code not in the table of R111 (R111, R384, U14). Safe. -/
  | unknownCommandCode
  /-- Raised by `step` for a command whose operands have other shapes than R111 gives (log 13). Safe. -/
  | wrongOperands
  /-- Raised by IP.SEND and UDP.SEND, and by TCP.SEND outside the invariant, for a payload over the bound of R222 or R253 (U15). Safe. -/
  | payloadTooLong
  /-- Raised by a TCP receive arm run on a state in which the lookup does not find what the arm's key names (R107, R117): the
  dispatcher never selects it there (log 11). Safe. -/
  | keyNotMatched
  deriving DecidableEq, Repr

/-- What every meaning answers. -/
abbrev Out := Host.Outcome State Fault Refusal

/-- The machine right after reset: exactly the table of R38; the model's own fields empty and 0 (log 6). -/
def State.reset : State where
  ownIp := 0
  gatewayIp := 0
  netmask := 0
  arpCache := ⟨0, zeroMac⟩
  nextEphemeral := 49152#16
  synCount := 0
  synBucketStart := 0
  nextHandle := 0
  connTable := []
  pending := []
  effects := []
  results := []
  isnDraws := 0
  txDraws := 0

end Sys2Proof.Machine
end

