-- ==== Sys2Proof/Machine/Operands.lean ====
section
/-! DEFINITION. The operand forms: how a segment names its connection (spec/47_tcp_rx.md R294), how a handle names one
(spec/48_tcp_api.md R341), the next hop of an address (spec/43_ipv4.md R218, R220), the usable send window (R346), the table's
capacity (R295). -/

namespace Sys2Proof.Machine

/-- `Lookup(lip, rip, lport, rport)` (R294): all four equal, no wildcard. -/
def State.lookup (s : State) (lip rip : Word32) (lport rport : Word16) : Option Conn :=
  s.connTable.find? fun c =>
    decide (c.localIp = lip) && decide (c.remoteIp = rip) && decide (c.localPort = lport) && decide (c.remotePort = rport)

/-- The lookup of `TCP.RX` (R290): local address `own_ip`, remote address the packet's source, ports from the segment. -/
def State.lookupSegment (s : State) (src : Word32) (seg : TcpSeg) : Option Conn :=
  s.lookup s.ownIp src seg.dstPort seg.srcPort

/-- `ByHandle(h)` (R341). A negative handle resolves to nothing (U21). -/
def State.byHandle (s : State) (h : Int) : Option Conn :=
  s.connTable.find? fun c => decide ((c.handle : Int) = h)

/-- The record a handle names if it is `ESTABLISHED`: what `accept`, `send` and `recv` ask for (R340, R343, R346, R347). -/
def State.establishedByHandle (s : State) (h : Int) : Option Conn :=
  (s.byHandle h).filter fun c => decide (c.state = .established)

/-- The next hop (R218): the destination if it is on the subnet of `own_ip`, else the gateway. A 32-bit AND and compare (R220). -/
def State.nextHop (s : State) (dest : Word32) : Word32 :=
  if dest &&& s.netmask = s.ownIp &&& s.netmask then dest else s.gatewayIp

/-- `c.send_window_end - c.send_window_start` (R346). -/
def Conn.usableWindow (c : Conn) : Nat := c.sendWindowEnd - c.sendWindowStart

/-- `|conn_table| >= MAX_CONN` (R295); an infinite table is never full. -/
def State.tableFull (cfg : Config) (s : State) : Bool :=
  match cfg.maxConn with
  | none => false
  | some n => decide (n ≤ s.connTable.length)

end Sys2Proof.Machine
end

