-- ==== Sys2Proof/Machine/Ops.lean ====
section
/-! DEFINITION. The named operations over memory and registers: octet storage and the receive ring (spec/10_state.md R32), the drop
mechanism and the results of events (spec/60_exceptions.md R380), the send side of every unit (ETH.SEND, ARP.RESOLVE, IP.SEND,
UDP.SEND, EmitSeg), and the connection table (spec/47_tcp_rx.md R295, R296). -/

namespace Sys2Proof.Machine

/-! ### Octet storage -/

/-- One octet of storage; an unlisted offset reads as 0 (R30). -/
def Memory.read : Memory → Nat → Octet
  | [], _ => 0#8
  | (b, v) :: m, a => if b = a then v else Memory.read m a

/-- Writes one octet and keeps the canonical form: writing 0 removes the entry. -/
def Memory.write : Memory → Nat → Octet → Memory
  | [], a, v => if v = 0#8 then [] else [(a, v)]
  | (b, w) :: m, a, v =>
    if a < b then (if v = 0#8 then (b, w) :: m else (a, v) :: (b, w) :: m)
    else if a = b then (if v = 0#8 then m else (a, v) :: m)
    else (b, w) :: Memory.write m a v

/-! ### The receive ring (R32) -/

/-- The store loop of `RingPush`: each octet at `recv_end`, which then steps on modulo the capacity. -/
def ringStore (cap : Nat) : Octets → Conn → Conn
  | [], c => c
  | o :: rest, c =>
    ringStore cap rest { c with recvBuf := Memory.write c.recvBuf c.recvEnd o, recvEnd := (c.recvEnd + 1) % cap }

/-- `RingPush(c, data) -> n` (R32): stores as many octets as there is room for; the rest is lost. -/
def ringPush (cfg : Config) (c : Conn) (data : Octets) : Nat × Conn :=
  let n := min data.length (cfg.rxbufCap - c.recvCount)
  (n, { ringStore cfg.rxbufCap (data.take n) c with recvCount := c.recvCount + n })

/-- The read loop of `RingPop`: `n` octets from offset `start` on, modulo the capacity. -/
def ringRead (cap : Nat) (m : Memory) : Nat → Nat → Octets
  | 0, _ => []
  | n + 1, start => Memory.read m start :: ringRead cap m n ((start + 1) % cap)

/-- `recv_start` after `n` steps of "(c.recv_start + 1) mod RXBUF_CAP" (R32). -/
def ringAdvance (cap : Nat) : Nat → Nat → Nat
  | 0, start => start
  | n + 1, start => ringAdvance cap n ((start + 1) % cap)

/-- `RingPop(c, maxlen) -> out` (R32): the oldest octets first; what is returned is not cleared. -/
def ringPop (cfg : Config) (c : Conn) (maxlen : Nat) : Octets × Conn :=
  let n := min maxlen c.recvCount
  (ringRead cfg.rxbufCap c.recvBuf n c.recvStart,
    { c with recvStart := ringAdvance cfg.rxbufCap n c.recvStart, recvCount := c.recvCount - n })

/-! ### Effects, results and the drop mechanism -/

/-- `emit` (R16): effects stand in the order they are emitted (R76). -/
def State.emit (s : State) (e : Effect) : State := { s with effects := s.effects ++ [e] }

/-- The result of the event is recorded. -/
def State.finish (s : State) (r : Result) : State := { s with results := s.results ++ [r] }

/-- TAKING A DROP: `raise Drop(reason)` (R16, R380). The receive event ends; what was written and emitted before stands; nothing is
saved anywhere; the reason is the result of the event. There is nothing to return from (R388). -/
def State.raiseDrop (s : State) (reason : DropReason) : State := s.finish (.rx (some reason))

/-- A receive event that ran to its end: result `None` (R380). -/
def State.endRx (s : State) : State := s.finish (.rx none)

/-- `return v` ends a host command with result `v` (R16). -/
def State.ret (s : State) (v : RetVal) : State := s.finish (.ret v)

/-! ### Register writes -/

/-- `own_ip <- v` (R22, R228): nothing else changes. -/
def State.setOwnIp (s : State) (v : Word32) : State := { s with ownIp := v }
/-- `gateway_ip <- v` (R22, R229). -/
def State.setGatewayIp (s : State) (v : Word32) : State := { s with gatewayIp := v }
/-- `netmask <- v` (R22, R230). -/
def State.setNetmask (s : State) (v : Word32) : State := { s with netmask := v }
/-- "`arp_cache.ip <- spa ; arp_cache.mac <- sha`" (R192): single-slot overwrite. -/
def State.setArpCache (s : State) (ip : Word32) (mac : Mac) : State := { s with arpCache := ⟨ip, mac⟩ }
/-- `next_ephemeral <- (next_ephemeral + 1) mod 2^16` (R26, R350). -/
def State.stepEphemeral (s : State) : State := { s with nextEphemeral := s.nextEphemeral + 1#16 }

/-! ### ETH.SEND (R175) -/

/-- The frame: `dest_mac ++ OWN_MAC ++ put16(ethertype) ++ payload` (R175). -/
def ethFrame (cfg : Config) (dest : Mac) (ethertype : Word16) (payload : Octets) : Octets :=
  dest.octets ++ cfg.ownMac.octets ++ put16 ethertype ++ payload

/-- `ETH.SEND` (R175): one `TxAlloc` draw for `14 + len(payload)` octets; if it is false nothing is emitted and nobody is told
(R176). No padding, no length limit (R177). -/
def ethSend (cfg : Config) (dest : Mac) (ethertype : Word16) (payload : Octets) (s : State) : State :=
  { s with
    txDraws := s.txDraws + 1
    effects := s.effects ++
      if cfg.txAlloc s.txDraws (14 + payload.length) then [.tx (ethFrame cfg dest ethertype payload)] else [] }

/-! ### ARP (R194 to R196) -/

/-- `BuildArp(op, tha, tpa)` (R194): 28 octets and 18 of padding, 46 in all (R94). -/
def buildArp (cfg : Config) (ownIp : Word32) (op : Word16) (tha : Mac) (tpa : Word32) : Octets :=
  put16 1#16 ++ put16 0x0800#16 ++ [6#8, 4#8] ++ put16 op ++ cfg.ownMac.octets ++ put32 ownIp ++ tha.octets ++ put32 tpa
    ++ zeros 18

/-- `ARP.REQUEST(target_ip)` (R195): broadcast, target hardware address all zero. -/
def arpRequest (cfg : Config) (target : Word32) (s : State) : State :=
  ethSend cfg broadcastMac 0x0806#16 (buildArp cfg s.ownIp 1#16 zeroMac target) s

/-- The MAC `ARP.RESOLVE(target_ip)` returns (R196): the cached one on a hit, else the broadcast MAC. -/
def resolvedMac (s : State) (target : Word32) : Mac := if target = s.arpCache.ip then s.arpCache.mac else broadcastMac

/-- What `ARP.RESOLVE(target_ip)` does (R196): nothing on a hit, one request on a miss. The cache is not written. -/
def arpResolve (cfg : Config) (target : Word32) (s : State) : State :=
  if target = s.arpCache.ip then s else arpRequest cfg target s

/-! ### IP.SEND (R218 to R222) -/

/-- `BuildIpHeader(dest_ip, protocol, n)` (R219): 20 octets, the checksum over them alone. -/
def buildIpHeader (ownIp dest : Word32) (protocol : Octet) (n : Nat) : Octets :=
  insertChecksum []
    ([0x45#8, 0x00#8] ++ putLength (20 + n) ++ put16 0 ++ put16 0 ++ [64#8, protocol] ++ [0#8, 0#8] ++ put32 ownIp ++ put32 dest)
    10

/-- `IP.SEND(dest_ip, protocol, payload)` (R218), for a payload within the bound of R222: the next hop is resolved first, which
on a miss emits a request (R221), then the packet is sent to the MAC the resolver gave. -/
def ipSend (cfg : Config) (dest : Word32) (protocol : Octet) (payload : Octets) (s : State) : State :=
  ethSend cfg (resolvedMac s (s.nextHop dest)) 0x0800#16 (buildIpHeader s.ownIp dest protocol payload.length ++ payload)
    (arpResolve cfg (s.nextHop dest) s)

/-- `UDP.SEND(dest_ip, src_port, dest_port, payload)` (R252), for a payload within the bound of R253: checksum 0. -/
def udpSend (cfg : Config) (dest : Word32) (srcPort destPort : Word16) (payload : Octets) (s : State) : State :=
  ipSend cfg dest 17#8 (put16 srcPort ++ put16 destPort ++ putLength (8 + payload.length) ++ put16 0 ++ payload) s

/-! ### Connections (R295, R296) -/

/-- A new record with the creation values of R30 and R295. -/
def newConn (cfg : Config) (handle : Nat) (lip rip : Word32) (lport rport : Word16) (st : TcpState) (isn : Word32) : Conn where
  handle := handle
  localIp := lip
  remoteIp := rip
  localPort := lport
  remotePort := rport
  state := st
  seqNumber := isn
  ackNumber := 0
  sendWindowStart := 0
  sendWindowEnd := cfg.sendWindowInit
  recvWindowStart := 0
  recvWindowEnd := cfg.tcpWindow.setWidth 32
  recvBuf := []
  recvStart := 0
  recvEnd := 0
  recvCount := 0
  lastAckTime := 0
  rto := cfg.rtoInit
  retransmitCount := 0
  synTimestamp := 0
  synCookieEnabled := false

/-- `CreateConn(lip, rip, lport, rport, st) -> c or fail` (R295): lookup before create, then the capacity, then one `ISN` draw. -/
def createConn (cfg : Config) (lip rip : Word32) (lport rport : Word16) (st : TcpState) (s : State) : Option (Conn × State) :=
  if (s.lookup lip rip lport rport).isSome then none
  else if s.tableFull cfg then none
  else
    let c := newConn cfg s.nextHandle lip rip lport rport st (cfg.isn s.isnDraws)
    some (c, { s with
      nextHandle := s.nextHandle + 1
      isnDraws := s.isnDraws + 1
      connTable := s.connTable ++ [c] })

/-- The record with this record's handle becomes this record: how a change to the fields of `c` reaches the table. -/
def State.setConn (s : State) (c : Conn) : State :=
  { s with connTable := s.connTable.map fun d => if d.handle = c.handle then c else d }

/-- `RemoveConn(c)`: "`conn_table <- conn_table without c`" (R296). Nothing is sent. -/
def State.removeConn (s : State) (c : Conn) : State :=
  { s with connTable := s.connTable.filter fun d => !decide (d.handle = c.handle) }

/-! ### EmitSeg (R299) -/

/-- The TCP pseudo-header, 12 octets, summed and never sent (R106, R299). -/
def pseudoHeader (ownIp remoteIp : Word32) (n : Nat) : Octets :=
  put32 ownIp ++ put32 remoteIp ++ [0#8, 6#8] ++ putLength (20 + n)

/-- The segment `EmitSeg` builds: a 20-octet header and the data, the checksum over pseudo-header, header and data (R299). -/
def buildSegment (cfg : Config) (ownIp : Word32) (c : Conn) (flags : Octet) (data : Octets) : Octets :=
  insertChecksum (pseudoHeader ownIp c.remoteIp data.length)
    (put16 c.localPort ++ put16 c.remotePort ++ put32 c.seqNumber ++ put32 c.ackNumber ++ [0x50#8, flags]
      ++ put16 cfg.tcpWindow ++ [0#8, 0#8] ++ put16 0 ++ data)
    16

/-- The record after `EmitSeg` (R299): "`seq_number` advances by bytes sent plus 1 for SYN/FIN", modulo 2^32. -/
def Conn.countSegment (c : Conn) (flags : Octet) (data : Octets) : Conn :=
  { c with seqNumber := c.seqNumber + BitVec.ofNat 32 (data.length + flagsSequenceCount flags) }

/-- What `EmitSeg(c, flags, data)` sends (R299). The record it counts the segment on is `c.countSegment flags data`. -/
def emitSeg (cfg : Config) (c : Conn) (flags : Octet) (data : Octets) (s : State) : State :=
  ipSend cfg c.remoteIp 6#8 (buildSegment cfg s.ownIp c flags data) s

end Sys2Proof.Machine
end

