-- ==== Sys2Proof/Machine/Arp.lean ====
section
/-! DEFINITION. The ARP resolver (spec/42_arp.md): ARP.RX and the commands ARP.RESOLVE and ARP.REQUEST. -/

namespace Sys2Proof.Machine

/-- The part of `ARP.RX` every opcode shares (R190, R192): not for us is dropped; else the cache is overwritten first, and `after`
is what the opcode adds. -/
def arpLearn (sha : Mac) (spa tpa : Word32) (s : State) (after : State → State) : State :=
  if tpa ≠ s.ownIp then s.raiseDrop .arpNotForUs else (after (s.setArpCache spa sha)).endRx

/-- A request (R190, R193): the cache, then a reply to the asker. -/
def arpRxRequest (cfg : Config) (sha : Mac) (spa tpa : Word32) (s : State) : State :=
  arpLearn sha spa tpa s fun t => ethSend cfg sha 0x0806#16 (buildArp cfg t.ownIp 2#16 sha spa) t

/-- Any other opcode (R190, R192): the cache alone. -/
def arpRxOther (_opcode : Word16) (sha : Mac) (spa tpa : Word32) (s : State) : State := arpLearn sha spa tpa s fun t => t

/-- `ARP.RX(p)` (R190). -/
def arpRx (cfg : Config) (p : Octets) (s : State) : State :=
  caseArp p (s.raiseDrop .malformedPacket) (fun sha spa tpa => arpRxRequest cfg sha spa tpa s)
    (fun op sha spa tpa => arpRxOther op sha spa tpa s)

/-- ARP.RX.REQUEST (R190). -/
def execArpRxRequest (sha : Mac) (spa tpa : Word32) (s : State) : Out := .next (arpRxRequest Config.chip sha spa tpa s)

/-- ARP.RX.OTHER (R190). -/
def execArpRxOther (opcode : Word16) (sha : Mac) (spa tpa : Word32) (s : State) : Out :=
  .next (arpRxOther opcode sha spa tpa s)

/-- The command ARP.RESOLVE (R196). -/
def arpResolveCommand (cfg : Config) (target : Word32) (s : State) : State :=
  (arpResolve cfg target s).ret (.mac (resolvedMac s target))

/-- The command ARP.REQUEST (R195). -/
def arpRequestCommand (cfg : Config) (target : Word32) (s : State) : State := (arpRequest cfg target s).ret .nothing

/-- ARP.RESOLVE (R196). -/
def execArpResolve (target : Word32) (s : State) : Out := .next (arpResolveCommand Config.chip target s)

/-- ARP.REQUEST (R195). -/
def execArpRequest (target : Word32) (s : State) : Out := .next (arpRequestCommand Config.chip target s)

end Sys2Proof.Machine
end

