-- ==== Sys2Proof/Machine/Icmp.lean ====
section
/-! DEFINITION. The ICMP module (spec/44_icmp.md): ICMP.ECHO and ICMP.RX. -/

namespace Sys2Proof.Machine

/-- The arm of type 0 (R241): one log record, level info. -/
def icmpRxEchoReply (srcIp : Word32) (nbytes : Nat) (sequence : Word16) (s : State) : State :=
  (s.emit (.log .info (.icmpEchoReply srcIp nbytes sequence))).endRx

/-- Every other type (R241, R242): ignored, an echo request too. -/
def icmpRxOther (_icmpType : Octet) (s : State) : State := s.raiseDrop .icmpIgnored

/-- `ICMP.RX(src_ip, b)` (R241). -/
def icmpRx (srcIp : Word32) (b : Octets) (s : State) : State :=
  caseIcmp b (s.raiseDrop .malformedPacket) (fun n q => icmpRxEchoReply srcIp n q s) (fun t => icmpRxOther t s)

/-- The echo request of `ICMP.ECHO` (R240): type 8, code 0, the checksum over the whole message. -/
def buildEcho (cfg : Config) (ident sequence : Word16) : Octets :=
  insertChecksum [] ([8#8, 0#8] ++ [0#8, 0#8] ++ put16 ident ++ put16 sequence ++ cfg.icmpPayload) 2

/-- `ICMP.ECHO(dest_ip, id, seq)` (R240). The message is 40 octets, within every bound. -/
def icmpEcho (cfg : Config) (dest : Word32) (ident sequence : Word16) (s : State) : State :=
  (ipSend cfg dest 1#8 (buildEcho cfg ident sequence) s).ret .nothing

/-- ICMP.RX.ECHO_REPLY (R241). -/
def execIcmpRxEchoReply (srcIp : Word32) (nbytes : Nat) (sequence : Word16) (s : State) : Out :=
  .next (icmpRxEchoReply srcIp nbytes sequence s)

/-- ICMP.RX.OTHER (R241). -/
def execIcmpRxOther (icmpType : Octet) (s : State) : Out := .next (icmpRxOther icmpType s)

/-- ICMP.ECHO (R240). -/
def execIcmpEcho (dest : Word32) (ident sequence : Word16) (s : State) : Out :=
  .next (icmpEcho Config.chip dest ident sequence s)

end Sys2Proof.Machine
end

