-- ==== Sys2Proof/Machine/TcpRx.lean ====
section
/-! DEFINITION. The TCP engine, receive side (spec/47_tcp_rx.md R290 to R312): TCP.RX and the arms of its state machine. An arm is
given the record `c` the lookup found; what it leaves of the record goes back into the table at its end. -/

namespace Sys2Proof.Machine

/-! ### The arms -/

/-- `ArmListen(c, seg)` (R301): acknowledge the SYN, send `SYN|ACK`, go to SYN_RECEIVED. Data carried by the SYN is ignored. -/
def armListen (cfg : Config) (seg : TcpSeg) (c : Conn) (s : State) : State :=
  let acked := { c with ackNumber := seg.seq + 1#32 }
  ((emitSeg cfg acked flagsSynAck [] s).setConn
    { acked.countSegment flagsSynAck [] with state := .synReceived }).endRx

/-- `ArmSynSent(c, seg)` (R302): acknowledge, go to ESTABLISHED. `seg.ack` is not compared. -/
def armSynSent (cfg : Config) (seg : TcpSeg) (c : Conn) (s : State) : State :=
  let acked := { c with ackNumber := seg.seq + 1#32 }
  ((emitSeg cfg acked flagAck [] s).setConn
    { acked.countSegment flagAck [] with state := .established }).endRx

/-- SYN_RECEIVED + ACK (R303): go to ESTABLISHED, nothing is sent. -/
def armSynReceived (c : Conn) (s : State) : State := (s.setConn { c with state := .established }).endRx

/-- The FIN step of `ArmEstablished` (R305): `ack_number` counts the data and the FIN; ACK, then `FIN|ACK`; LAST_ACK. -/
def armEstablishedFin (cfg : Config) (seg : TcpSeg) (c : Conn) (s : State) : State :=
  let acked := { c with ackNumber := seg.seq + BitVec.ofNat 32 (seg.data.length + 1) }
  let once := acked.countSegment flagAck []
  let s1 := emitSeg cfg acked flagAck [] s
  let s2 := emitSeg cfg once flagsFinAck [] s1
  (s2.setConn { once.countSegment flagsFinAck [] with state := .lastAck }).endRx

/-- The record after the data step of `ArmEstablished` (R304): as much stored as fits, all of it acknowledged. -/
def dataStored (cfg : Config) (seg : TcpSeg) (c : Conn) : Conn :=
  { (ringPush cfg c seg.data).2 with ackNumber := seg.seq + BitVec.ofNat 32 seg.data.length }

/-- The data step of `ArmEstablished` (R304), then, in the same operation, the FIN step if FIN is set (R305, R107). -/
def armEstablishedData (cfg : Config) (seg : TcpSeg) (c : Conn) (s : State) : State :=
  let stored := dataStored cfg seg c
  let once := stored.countSegment flagAck []
  let s1 := emitSeg cfg stored flagAck [] s
  if hasFin seg.flags then armEstablishedFin cfg seg once s1 else (s1.setConn once).endRx

/-- FIN_WAIT_1 + ACK (R306): go to FIN_WAIT_2; a FIN or data in the segment is ignored. -/
def armFinWait1 (c : Conn) (s : State) : State := (s.setConn { c with state := .finWait2 }).endRx

/-- `ArmFinWait2(c, seg)` (R307): data counted, not stored; ACK; TIME_WAIT. -/
def armFinWait2 (cfg : Config) (seg : TcpSeg) (c : Conn) (s : State) : State :=
  let acked := { c with ackNumber := seg.seq + BitVec.ofNat 32 (seg.data.length + 1) }
  ((emitSeg cfg acked flagAck [] s).setConn
    { acked.countSegment flagAck [] with state := .timeWait }).endRx

/-- LAST_ACK + ACK (R308): the record is removed, nothing is sent. -/
def armLastAck (c : Conn) (s : State) : State := (s.removeConn c).endRx

/-- TIME_WAIT + any segment (R309): the record is removed, nothing is sent, no drop. -/
def armTimeWait (c : Conn) (s : State) : State := (s.removeConn c).endRx

/-- No action (R310). -/
def armNoAction (s : State) : State := s.raiseDrop .tcpNoAction

/-! ### The no-connection arm (R297) -/

/-- `SYN_FLOOD_LIMIT` = 10 (R9). -/
def synFloodLimit : Nat := 10

/-- The bucket mechanism (R297): a new bucket if the clock ran backwards or a second has passed; then this SYN is counted. -/
def countSyn (cfg : Config) (now : Nat) (s : State) : State :=
  if now < s.synBucketStart ∨ cfg.ticksPerSecond ≤ now - s.synBucketStart then
    { s with synBucketStart := now, synCount := 1 }
  else { s with synCount := s.synCount + 1 }

/-- A SYN for no connection (R297): flood check, creation in LISTEN, `syn_timestamp`, then the LISTEN arm for the same segment. -/
def noConnSyn (cfg : Config) (src : Word32) (seg : TcpSeg) (now : Nat) (s : State) : State :=
  let counted := countSyn cfg now s
  if synFloodLimit < counted.synCount then
    (counted.emit (.log .warn (.synFlood src seg.dstPort))).raiseDrop .synFloodThreshold
  else
    match createConn cfg counted.ownIp src seg.dstPort seg.srcPort .listen counted with
    | none => counted.raiseDrop .allocationFailure
    | some (c, s1) => armListen cfg seg { c with synTimestamp := now } s1

/-- No SYN and no connection (R297). -/
def noConnOther (s : State) : State := s.raiseDrop .unknownConnection

/-! ### TCP.RX -/

/-- `StateArm(c, seg)` (R298): exactly one arm, by the state as it is on entry. -/
def stateArm (cfg : Config) (seg : TcpSeg) (c : Conn) (s : State) : State :=
  caseState c.state seg (armListen cfg seg c s) (armSynSent cfg seg c s) (armSynReceived c s)
    (armEstablishedData cfg seg c s) (armEstablishedFin cfg seg c s) (armFinWait1 c s) (armFinWait2 cfg seg c s)
    (armLastAck c s) (armTimeWait c s) (armNoAction s)

/-- `TCP.RX(src_ip, b, now)` (R290). -/
def tcpRx (cfg : Config) (src : Word32) (b : Octets) (now : Nat) (s : State) : State :=
  match parseTcp b with
  | none => s.raiseDrop .malformedPacket
  | some seg =>
    match s.lookupSegment src seg with
    | none => caseNoConn seg (noConnSyn cfg src seg now s) (noConnOther s)
    | some c => stateArm cfg seg c s

/-! ### Meanings: each arm as an instruction of its own -/

/-- An arm of state `st` acts on the record the segment's lookup finds, which must be in that state: that is the state half of
the arm's key (R107, R117). In any other state the dispatcher does not select the arm (log 11). -/
def onConn (src : Word32) (seg : TcpSeg) (st : TcpState) (s : State) (arm : Conn → State) : Out :=
  match s.lookupSegment src seg with
  | none => .refused .keyNotMatched
  | some c => if c.state = st then .next (arm c) else .refused .keyNotMatched

/-- The key of the two NOCONN rows: the lookup finds no record (R107). -/
def onNoConn (src : Word32) (seg : TcpSeg) (s : State) (result : State) : Out :=
  match s.lookupSegment src seg with
  | none => .next result
  | some _ => .refused .keyNotMatched

/-- TCP.RX.NOCONN_SYN (R297). -/
def execTcpRxNoconnSyn (src : Word32) (seg : TcpSeg) (now : Nat) (s : State) : Out :=
  onNoConn src seg s (noConnSyn Config.chip src seg now s)

/-- TCP.RX.NOCONN_OTHER (R297). -/
def execTcpRxNoconnOther (src : Word32) (seg : TcpSeg) (s : State) : Out := onNoConn src seg s (noConnOther s)

/-- TCP.RX.LISTEN_SYN (R301). -/
def execTcpRxListenSyn (src : Word32) (seg : TcpSeg) (s : State) : Out :=
  onConn src seg .listen s fun c => armListen Config.chip seg c s

/-- TCP.RX.SYN_SENT_SYNACK (R302). -/
def execTcpRxSynSentSynack (src : Word32) (seg : TcpSeg) (s : State) : Out :=
  onConn src seg .synSent s fun c => armSynSent Config.chip seg c s

/-- TCP.RX.SYN_RECEIVED_ACK (R303). -/
def execTcpRxSynReceivedAck (src : Word32) (seg : TcpSeg) (s : State) : Out :=
  onConn src seg .synReceived s fun c => armSynReceived c s

/-- TCP.RX.ESTABLISHED_DATA (R304), and the FIN row after it in the same operation (R305). -/
def execTcpRxEstablishedData (src : Word32) (seg : TcpSeg) (s : State) : Out :=
  onConn src seg .established s fun c => armEstablishedData Config.chip seg c s

/-- TCP.RX.ESTABLISHED_FIN (R305). -/
def execTcpRxEstablishedFin (src : Word32) (seg : TcpSeg) (s : State) : Out :=
  onConn src seg .established s fun c => armEstablishedFin Config.chip seg c s

/-- TCP.RX.FIN_WAIT_1_ACK (R306). -/
def execTcpRxFinWait1Ack (src : Word32) (seg : TcpSeg) (s : State) : Out :=
  onConn src seg .finWait1 s fun c => armFinWait1 c s

/-- TCP.RX.FIN_WAIT_2_FIN (R307). -/
def execTcpRxFinWait2Fin (src : Word32) (seg : TcpSeg) (s : State) : Out :=
  onConn src seg .finWait2 s fun c => armFinWait2 Config.chip seg c s

/-- TCP.RX.LAST_ACK_ACK (R308). -/
def execTcpRxLastAckAck (src : Word32) (seg : TcpSeg) (s : State) : Out :=
  onConn src seg .lastAck s fun c => armLastAck c s

/-- TCP.RX.TIME_WAIT_ANY (R309). -/
def execTcpRxTimeWaitAny (src : Word32) (seg : TcpSeg) (s : State) : Out :=
  onConn src seg .timeWait s fun c => armTimeWait c s

/-- TCP.RX.NO_ACTION (R310). -/
def execTcpRxNoAction (found : TcpState) (src : Word32) (seg : TcpSeg) (s : State) : Out :=
  onConn src seg found s fun _ => armNoAction s

end Sys2Proof.Machine
end

