-- ==== Sys2Proof/Machine/Dhcp.lean ====
section
/-! DEFINITION. The DHCP client (spec/46_dhcp.md): DHCP.DISCOVER, DHCP.RX and the five option arms of its walk. -/

namespace Sys2Proof.Machine

/-! ### DHCP.DISCOVER -/

/-- The magic cookie 0x63825363 (R9, R108). -/
def dhcpMagic : Word32 := 0x63825363#32

/-- `BuildDiscover()` (R260): the 236-octet fixed header, the cookie, options 53, 55 and 255. -/
def buildDiscover (cfg : Config) : Octets :=
  [1#8, 1#8, 6#8, 0#8] ++ put32 cfg.dhcpXid ++ put16 0 ++ put16 cfg.dhcpFlags
    ++ put32 0 ++ put32 0 ++ put32 0 ++ put32 0
    ++ cfg.ownMac.octets ++ zeros 10
    ++ zeros 64 ++ zeros 128
    ++ put32 dhcpMagic
    ++ tlvEncode 53#8 [1#8] ++ tlvEncode 55#8 cfg.dhcpPrl ++ tlvEnd

/-- `DHCP.DISCOVER()` (R261): from port 68 to 255.255.255.255 port 67. -/
def dhcpDiscover (cfg : Config) (s : State) : State :=
  (udpSend cfg 0xFFFFFFFF#32 68#16 67#16 (buildDiscover cfg) s).ret .nothing

/-! ### The option arms (R160, R267): they end no event, the walk goes on after them -/

/-- Code 0: skipped. -/
def optPad (s : State) : State := s

/-- Code 255: the walk stops; nothing is written. -/
def optEnd (s : State) : State := s

/-- Code 1: "if code = 1 and n >= 4: netmask <- be32(v, 0)", else skipped. -/
def optSubnetMask (value : Octets) (s : State) : State :=
  if 4 ≤ value.length then s.setNetmask (be32 value 0) else s

/-- Code 3: "if code = 3 and n >= 4: gateway_ip <- be32(v, 0)", else skipped. -/
def optRouter (value : Octets) (s : State) : State :=
  if 4 ≤ value.length then s.setGatewayIp (be32 value 0) else s

/-- Any other code: skipped by its length. -/
def optOther (_code : Octet) (_value : Octets) (s : State) : State := s

/-- The walk of DHCP.RX with each option's arm run as it is met (R160, R265). Every turn takes at least one octet, so as many
turns as there are octets are enough (R161 a). -/
def runOptions : Nat → Octets → State → State
  | 0, _, s => s
  | fuel + 1, b, s =>
    caseOption b s (fun rest => runOptions fuel rest (optPad s)) (optEnd s)
      (fun v rest => runOptions fuel rest (optSubnetMask v s)) (fun v rest => runOptions fuel rest (optRouter v s))
      (fun c v rest => runOptions fuel rest (optOther c v s))

/-! ### DHCP.RX -/

/-- `DHCP.RX(b)` (R265): length, `chaddr`, `yiaddr`; then `own_ip`, then the options from offset 240 on. -/
def dhcpRx (cfg : Config) (b : Octets) (s : State) : State :=
  if b.length < 236 then s.raiseDrop .malformedPacket
  else if macAt b 28 ≠ cfg.ownMac then s.raiseDrop .dhcpNotForUs
  else if be32 b 16 = 0 then s.raiseDrop .dhcpNoAddress
  else (runOptions b.length (b.drop 240) (s.setOwnIp (be32 b 16))).endRx

/-! ### Meanings -/

/-- DHCP.OPT.PAD (R160): skipped, one octet. -/
def execDhcpOptPad (s : State) : Out := .next (optPad s)

/-- DHCP.OPT.END (R160): the walk stops. -/
def execDhcpOptEnd (s : State) : Out := .next (optEnd s)

/-- DHCP.OPT.SUBNET_MASK (R267). -/
def execDhcpOptSubnetMask (value : Octets) (s : State) : Out := .next (optSubnetMask value s)

/-- DHCP.OPT.ROUTER (R267). -/
def execDhcpOptRouter (value : Octets) (s : State) : Out := .next (optRouter value s)

/-- DHCP.OPT.OTHER (R267): skipped by its length. -/
def execDhcpOptOther (code : Octet) (value : Octets) (s : State) : Out := .next (optOther code value s)

/-- DHCP.DISCOVER (R261). -/
def execDhcpDiscover (s : State) : Out := .next (dhcpDiscover Config.chip s)

end Sys2Proof.Machine
end

