-- ==== Sys2Proof/Machine/Udp.lean ====
section
/-! DEFINITION. The UDP demultiplexer (spec/45_udp.md): UDP.RX and UDP.SEND. -/

namespace Sys2Proof.Machine

/-- The arm of port 68 (R250): the payload is handed to DHCP.RX. -/
def udpRxDhcpClient (cfg : Config) (payload : Octets) (s : State) : State := dhcpRx cfg payload s

/-- Every other port (R250): "silently dropped". -/
def udpRxOther (_destPort : Word16) (s : State) : State := s.raiseDrop .unknownPort

/-- `UDP.RX(src_ip, b)` (R250). The source address is received and not used. -/
def udpRx (cfg : Config) (b : Octets) (s : State) : State :=
  caseUdp b (s.raiseDrop .malformedPacket) (fun p => udpRxDhcpClient cfg p s) (fun port => udpRxOther port s)

/-- UDP.RX.DHCP_CLIENT (R250). -/
def execUdpRxDhcpClient (payload : Octets) (s : State) : Out := .next (udpRxDhcpClient Config.chip payload s)

/-- UDP.RX.OTHER (R250). -/
def execUdpRxOther (destPort : Word16) (s : State) : Out := .next (udpRxOther destPort s)

/-- The command UDP.SEND (R252); a payload over 65507 octets is refused (R253). -/
def udpSendCommand (cfg : Config) (dest : Word32) (srcPort destPort : Word16) (payload : Octets) (s : State) : Out :=
  if maxUdpPayload < payload.length then .refused .payloadTooLong
  else .next ((udpSend cfg dest srcPort destPort payload s).ret .nothing)

/-- UDP.SEND (R252). -/
def execUdpSend (dest : Word32) (srcPort destPort : Word16) (payload : Octets) (s : State) : Out :=
  udpSendCommand Config.chip dest srcPort destPort payload s

end Sys2Proof.Machine
end

