-- ==== Sys2Proof/Machine/Ipv4.lean ====
section
/-! DEFINITION. The IPv4 layer (spec/43_ipv4.md): IP.RX and the command IP.SEND. The accessors are in Ipv4Accessors. -/

namespace Sys2Proof.Machine

/-- Protocol 1 (R210). -/
def ipRxIcmp (srcIp : Word32) (payload : Octets) (s : State) : State := icmpRx srcIp payload s

/-- Protocol 6 (R210). -/
def ipRxTcp (cfg : Config) (srcIp : Word32) (payload : Octets) (now : Nat) (s : State) : State := tcpRx cfg srcIp payload now s

/-- Protocol 17 (R210). -/
def ipRxUdp (cfg : Config) (_srcIp : Word32) (payload : Octets) (s : State) : State := udpRx cfg payload s

/-- Any other protocol (R213). -/
def ipRxUnknown (_protocol : Octet) (s : State) : State := s.raiseDrop .unknownProtocol

/-- `IP.RX(b, now)` (R210). -/
def ipRx (cfg : Config) (b : Octets) (now : Nat) (s : State) : State :=
  caseIp b (s.raiseDrop .malformedPacket) (fun src p => ipRxIcmp src p s) (fun src p => ipRxTcp cfg src p now s)
    (fun src p => ipRxUdp cfg src p s) (fun proto => ipRxUnknown proto s)

/-- The command IP.SEND (R218); a payload over 65515 octets is refused (R222). -/
def ipSendCommand (cfg : Config) (dest : Word32) (protocol : Octet) (payload : Octets) (s : State) : Out :=
  if maxIpPayload < payload.length then .refused .payloadTooLong
  else .next ((ipSend cfg dest protocol payload s).ret .nothing)

/-- IP.RX.ICMP (R210). -/
def execIpRxIcmp (srcIp : Word32) (payload : Octets) (s : State) : Out := .next (ipRxIcmp srcIp payload s)

/-- IP.RX.TCP (R210). -/
def execIpRxTcp (srcIp : Word32) (payload : Octets) (now : Nat) (s : State) : Out :=
  .next (ipRxTcp Config.chip srcIp payload now s)

/-- IP.RX.UDP (R210). -/
def execIpRxUdp (srcIp : Word32) (payload : Octets) (s : State) : Out := .next (ipRxUdp Config.chip srcIp payload s)

/-- IP.RX.UNKNOWN (R213). -/
def execIpRxUnknown (protocol : Octet) (s : State) : Out := .next (ipRxUnknown protocol s)

/-- IP.SEND (R218). -/
def execIpSend (dest : Word32) (protocol : Octet) (payload : Octets) (s : State) : Out :=
  ipSendCommand Config.chip dest protocol payload s

end Sys2Proof.Machine
end

