-- ==== Sys2Proof/Machine/Ethernet.lean ====
section
/-! DEFINITION. The Ethernet layer (spec/41_ethernet.md): ETH.RX, the operation every received frame starts, and the command
ETH.SEND. -/

namespace Sys2Proof.Machine

/-- Type 0x0800 (R170): the payload unchanged to IP.RX. -/
def ethRxIpv4 (cfg : Config) (payload : Octets) (now : Nat) (s : State) : State := ipRx cfg payload now s

/-- Type octets 00 08 (R171): handled exactly as 08 00. -/
def ethRxIpv4Swapped (cfg : Config) (payload : Octets) (now : Nat) (s : State) : State := ipRx cfg payload now s

/-- Type 0x0806 (R170): the payload to ARP.RX. -/
def ethRxArp (cfg : Config) (payload : Octets) (s : State) : State := arpRx cfg payload s

/-- Type octets 06 08 (R171): handled exactly as 08 06. -/
def ethRxArpSwapped (cfg : Config) (payload : Octets) (s : State) : State := arpRx cfg payload s

/-- Any other type (R172): "dropped silently". -/
def ethRxUnknown (_ethertype : Word16) (s : State) : State := s.raiseDrop .unknownEtherType

/-- `ETH.RX(f, now)` (R170). -/
def ethRx (cfg : Config) (f : Octets) (now : Nat) (s : State) : State :=
  caseFrame f (s.raiseDrop .malformedPacket) (fun p => ethRxIpv4 cfg p now s) (fun p => ethRxIpv4Swapped cfg p now s)
    (fun p => ethRxArp cfg p s) (fun p => ethRxArpSwapped cfg p s) (fun t => ethRxUnknown t s)

/-- The command ETH.SEND (R175): no result, whether or not a frame was sent. -/
def ethSendCommand (cfg : Config) (dest : Mac) (ethertype : Word16) (payload : Octets) (s : State) : State :=
  (ethSend cfg dest ethertype payload s).ret .nothing

/-- ETH.RX.IPV4 (R170). -/
def execEthRxIpv4 (payload : Octets) (now : Nat) (s : State) : Out := .next (ethRxIpv4 Config.chip payload now s)

/-- ETH.RX.IPV4_SWAPPED (R171). -/
def execEthRxIpv4Swapped (payload : Octets) (now : Nat) (s : State) : Out := .next (ethRxIpv4Swapped Config.chip payload now s)

/-- ETH.RX.ARP (R170). -/
def execEthRxArp (payload : Octets) (s : State) : Out := .next (ethRxArp Config.chip payload s)

/-- ETH.RX.ARP_SWAPPED (R171). -/
def execEthRxArpSwapped (payload : Octets) (s : State) : Out := .next (ethRxArpSwapped Config.chip payload s)

/-- ETH.RX.UNKNOWN (R172). -/
def execEthRxUnknown (ethertype : Word16) (s : State) : Out := .next (ethRxUnknown ethertype s)

/-- ETH.SEND (R175). -/
def execEthSend (dest : Mac) (ethertype : Word16) (payload : Octets) (s : State) : Out :=
  .next (ethSendCommand Config.chip dest ethertype payload s)

end Sys2Proof.Machine
end

