-- ==== Sys2Proof/Machine/Ipv4Accessors.lean ====
section
/-! DEFINITION. The configuration accessors of spec/43_ipv4.md R225 to R230: host commands that read and write RoutingConfig. None
emits an effect, none can fail, none validates its operand. -/

namespace Sys2Proof.Machine

/-- IP.GET_IP (R225). -/
def execIpGetIp (s : State) : Out := .next (s.ret (.word s.ownIp))

/-- IP.GET_GATEWAY (R226). -/
def execIpGetGateway (s : State) : Out := .next (s.ret (.word s.gatewayIp))

/-- IP.GET_NETMASK (R227). -/
def execIpGetNetmask (s : State) : Out := .next (s.ret (.word s.netmask))

/-- IP.SET_IP (R228): the connection table and the ARP cache are not touched. -/
def execIpSetIp (v : Word32) (s : State) : Out := .next ((s.setOwnIp v).ret .nothing)

/-- IP.SET_GATEWAY (R229). -/
def execIpSetGateway (v : Word32) (s : State) : Out := .next ((s.setGatewayIp v).ret .nothing)

/-- IP.SET_NETMASK (R230). -/
def execIpSetNetmask (v : Word32) (s : State) : Out := .next ((s.setNetmask v).ret .nothing)

end Sys2Proof.Machine
end

