-- ==== Sys2Proof/Machine/TcpApi.lean ====
section
/-! DEFINITION. The TCP engine, command side (spec/48_tcp_api.md R340 to R352): LISTEN, ACCEPT, SEND, RECV, CLOSE, CONNECT. -/

namespace Sys2Proof.Machine

/-- `TCP.LISTEN(port)` (R342): a record `(own_ip, 0, port, 0)` in LISTEN. -/
def tcpListen (cfg : Config) (port : Word16) (s : State) : State :=
  match createConn cfg s.ownIp 0 port 0 .listen s with
  | none => s.ret .failure
  | some (c, s1) => s1.ret (.handle c.handle)

/-- `TCP.ACCEPT(handle)` (R343): a pure query. -/
def tcpAccept (h : Int) (s : State) : State :=
  match s.establishedByHandle h with
  | none => s.ret .failure
  | some c => s.ret (.accepted c.handle c.remoteIp c.remotePort)

/-- The octets `TCP.SEND` sends: the data cut to the usable window (R346). -/
def sendableData (c : Conn) (data : Octets) : Octets := data.take (min data.length c.usableWindow)

/-- `TCP.SEND(handle, data)` (R346). The bound of R222 on one segment's data holds by itself as long as `c.send_window_end` is
`SEND_WINDOW_INIT` (R10, R33); where it does not, the send is refused, as R222 says of an internal caller. -/
def tcpSend (cfg : Config) (h : Int) (data : Octets) (s : State) : Out :=
  match s.establishedByHandle h with
  | none => .next (s.ret .failure)
  | some c =>
    let out := sendableData c data
    if out.length = 0 then .next (s.ret (.count 0))
    else if maxTcpData < out.length then .refused .payloadTooLong
    else .next (((emitSeg cfg c flagsPshAck out s).setConn
      { c.countSegment flagsPshAck out with sendWindowStart := c.sendWindowStart + out.length }).ret (.count out.length))

/-- `TCP.RECV(handle, maxlen)` (R347). -/
def tcpRecv (cfg : Config) (h : Int) (maxlen : Nat) (s : State) : State :=
  match s.establishedByHandle h with
  | none => s.ret .failure
  | some c =>
    let popped := ringPop cfg c maxlen
    (s.setConn popped.2).ret (.received popped.1.length popped.1)

/-- `TCP.CLOSE(handle)` (R348): `FIN|ACK` and FIN_WAIT_1 from ESTABLISHED, else the record is removed; a stale handle does nothing. -/
def tcpClose (cfg : Config) (h : Int) (s : State) : State :=
  match s.byHandle h with
  | none => s.ret .nothing
  | some c =>
    if c.state = .established then
      ((emitSeg cfg c flagsFinAck [] s).setConn { c.countSegment flagsFinAck [] with state := .finWait1 }).ret .nothing
    else (s.removeConn c).ret .nothing

/-- `TCP.CONNECT(ip, port)` (R350): the ephemeral port is consumed in any case; the record is created in SYN_SENT, the SYN is sent,
and the record is ESTABLISHED before the command ends. -/
def tcpConnect (cfg : Config) (ip : Word32) (port : Word16) (s : State) : State :=
  match createConn cfg s.ownIp ip s.nextEphemeral port .synSent s.stepEphemeral with
  | none => s.stepEphemeral.ret .failure
  | some (c, s1) =>
    ((emitSeg cfg c flagSyn [] s1).setConn { c.countSegment flagSyn [] with state := .established }).ret (.handle c.handle)

/-- TCP.LISTEN (R342). -/
def execTcpListen (port : Word16) (s : State) : Out := .next (tcpListen Config.chip port s)

/-- TCP.ACCEPT (R343). -/
def execTcpAccept (h : Int) (s : State) : Out := .next (tcpAccept h s)

/-- TCP.SEND (R346). -/
def execTcpSend (h : Int) (data : Octets) (s : State) : Out := tcpSend Config.chip h data s

/-- TCP.RECV (R347). -/
def execTcpRecv (h : Int) (maxlen : Nat) (s : State) : Out := .next (tcpRecv Config.chip h maxlen s)

/-- TCP.CLOSE (R348). -/
def execTcpClose (h : Int) (s : State) : Out := .next (tcpClose Config.chip h s)

/-- TCP.CONNECT (R350). -/
def execTcpConnect (ip : Word32) (port : Word16) (s : State) : Out := .next (tcpConnect Config.chip ip port s)

end Sys2Proof.Machine
end

