-- ==== Sys2Proof/Machine/Dispatch.lean ====
section
/-! DEFINITION. exec: one arm per instruction, in the order of spec/opcode_table.json. -/

namespace Sys2Proof.Machine

def exec (i : Instr) (s : State) : Host.Outcome State Fault Refusal :=
  match i with
  | .ethRxIpv4 payload now => Sys2Proof.Machine.execEthRxIpv4 payload now s
  | .ethRxIpv4Swapped payload now => Sys2Proof.Machine.execEthRxIpv4Swapped payload now s
  | .ethRxArp payload => Sys2Proof.Machine.execEthRxArp payload s
  | .ethRxArpSwapped payload => Sys2Proof.Machine.execEthRxArpSwapped payload s
  | .ethRxUnknown ethertype => Sys2Proof.Machine.execEthRxUnknown ethertype s
  | .arpRxRequest sha spa tpa => Sys2Proof.Machine.execArpRxRequest sha spa tpa s
  | .arpRxOther opcode sha spa tpa => Sys2Proof.Machine.execArpRxOther opcode sha spa tpa s
  | .ipRxIcmp srcIp payload => Sys2Proof.Machine.execIpRxIcmp srcIp payload s
  | .ipRxTcp srcIp payload now => Sys2Proof.Machine.execIpRxTcp srcIp payload now s
  | .ipRxUdp srcIp payload => Sys2Proof.Machine.execIpRxUdp srcIp payload s
  | .ipRxUnknown protocol => Sys2Proof.Machine.execIpRxUnknown protocol s
  | .icmpRxEchoReply srcIp nbytes sequence => Sys2Proof.Machine.execIcmpRxEchoReply srcIp nbytes sequence s
  | .icmpRxOther icmpType => Sys2Proof.Machine.execIcmpRxOther icmpType s
  | .udpRxDhcpClient payload => Sys2Proof.Machine.execUdpRxDhcpClient payload s
  | .udpRxOther destPort => Sys2Proof.Machine.execUdpRxOther destPort s
  | .dhcpOptPad => Sys2Proof.Machine.execDhcpOptPad s
  | .dhcpOptEnd => Sys2Proof.Machine.execDhcpOptEnd s
  | .dhcpOptSubnetMask value => Sys2Proof.Machine.execDhcpOptSubnetMask value s
  | .dhcpOptRouter value => Sys2Proof.Machine.execDhcpOptRouter value s
  | .dhcpOptOther code value => Sys2Proof.Machine.execDhcpOptOther code value s
  | .tcpRxNoconnSyn srcIp seg now => Sys2Proof.Machine.execTcpRxNoconnSyn srcIp seg now s
  | .tcpRxNoconnOther srcIp seg => Sys2Proof.Machine.execTcpRxNoconnOther srcIp seg s
  | .tcpRxListenSyn srcIp seg => Sys2Proof.Machine.execTcpRxListenSyn srcIp seg s
  | .tcpRxSynSentSynack srcIp seg => Sys2Proof.Machine.execTcpRxSynSentSynack srcIp seg s
  | .tcpRxSynReceivedAck srcIp seg => Sys2Proof.Machine.execTcpRxSynReceivedAck srcIp seg s
  | .tcpRxEstablishedData srcIp seg => Sys2Proof.Machine.execTcpRxEstablishedData srcIp seg s
  | .tcpRxEstablishedFin srcIp seg => Sys2Proof.Machine.execTcpRxEstablishedFin srcIp seg s
  | .tcpRxFinWait1Ack srcIp seg => Sys2Proof.Machine.execTcpRxFinWait1Ack srcIp seg s
  | .tcpRxFinWait2Fin srcIp seg => Sys2Proof.Machine.execTcpRxFinWait2Fin srcIp seg s
  | .tcpRxLastAckAck srcIp seg => Sys2Proof.Machine.execTcpRxLastAckAck srcIp seg s
  | .tcpRxTimeWaitAny srcIp seg => Sys2Proof.Machine.execTcpRxTimeWaitAny srcIp seg s
  | .tcpRxNoAction found srcIp seg => Sys2Proof.Machine.execTcpRxNoAction found srcIp seg s
  | .ethSend destMac ethertype payload => Sys2Proof.Machine.execEthSend destMac ethertype payload s
  | .arpResolve targetIp => Sys2Proof.Machine.execArpResolve targetIp s
  | .arpRequest targetIp => Sys2Proof.Machine.execArpRequest targetIp s
  | .ipSend destIp protocol payload => Sys2Proof.Machine.execIpSend destIp protocol payload s
  | .icmpEcho destIp ident sequence => Sys2Proof.Machine.execIcmpEcho destIp ident sequence s
  | .udpSend destIp srcPort destPort payload => Sys2Proof.Machine.execUdpSend destIp srcPort destPort payload s
  | .dhcpDiscover => Sys2Proof.Machine.execDhcpDiscover s
  | .ipGetIp => Sys2Proof.Machine.execIpGetIp s
  | .ipGetGateway => Sys2Proof.Machine.execIpGetGateway s
  | .ipGetNetmask => Sys2Proof.Machine.execIpGetNetmask s
  | .ipSetIp v => Sys2Proof.Machine.execIpSetIp v s
  | .ipSetGateway v => Sys2Proof.Machine.execIpSetGateway v s
  | .ipSetNetmask v => Sys2Proof.Machine.execIpSetNetmask v s
  | .tcpListen port => Sys2Proof.Machine.execTcpListen port s
  | .tcpAccept handle => Sys2Proof.Machine.execTcpAccept handle s
  | .tcpSend handle data => Sys2Proof.Machine.execTcpSend handle data s
  | .tcpRecv handle maxlen => Sys2Proof.Machine.execTcpRecv handle maxlen s
  | .tcpClose handle => Sys2Proof.Machine.execTcpClose handle s
  | .tcpConnect ipAddr port => Sys2Proof.Machine.execTcpConnect ipAddr port s

end Sys2Proof.Machine
end

