-- ==== Sys2Proof/Machine/Fetch.lean ====
section
/-! DEFINITION. Where the machine takes its next operation from: the block fetches no instructions (spec/10_state.md R23); "what it
does next is decided by the next event". -/

namespace Sys2Proof.Machine

/-- The state with the oldest pending event taken (R17, R77). -/
def State.dropPending (s : State) : State := { s with pending := s.pending.tail }

/-- The state in which this event is the next to be taken: the environment delivers it first. -/
def State.deliver (s : State) (e : Event) : State := { s with pending := e :: s.pending }

/-- What an event that starts no instruction of the table does: a frame too short for its header is dropped (R170, R382); a command
outside R111 is refused (U14). No event gives the rejection of an option stream. -/
def State.rejectEvent (s : State) (err : DecodeError) : Out :=
  match err with
  | .malformedPacket => .next (s.raiseDrop .malformedPacket)
  | .unknownCommandCode => .refused .unknownCommandCode
  | .wrongOperands => .refused .wrongOperands
  | .noOption => .refused .keyNotMatched

/-- The table without a record for segments from port 0 of 0.0.0.0 to port 0. -/
def State.withoutKeyRecord (s : State) : State :=
  { s with connTable := s.connTable.filter fun c =>
      !(decide (c.localIp = s.ownIp) && decide (c.remoteIp = 0) && decide (c.localPort = 0) && decide (c.remotePort = 0)) }

/-- The state in which the state half of a TCP key holds: the lookup of a segment from port 0 of 0.0.0.0 to port 0 finds a record in
the state the key names, or no record (R107, R117). The record's other fields have their creation values (R30), `ISN` 0. -/
def State.withKeyState (cfg : Config) (s : State) (found : Option TcpState) : State :=
  match found with
  | none => s.withoutKeyRecord
  | some st =>
    { s.withoutKeyRecord with
      nextHandle := s.nextHandle + 1
      connTable := s.withoutKeyRecord.connTable ++ [newConn cfg s.nextHandle s.ownIp 0 0 0 st 0] }

/-- The state whose next event runs an encoded instruction (log 16). -/
def State.placeEncoded (cfg : Config) (s : State) (e : Encoded) : State :=
  match e with
  | .ethertype f now => s.deliver ((Encoded.ethertype f now).carrier cfg.ownMac)
  | .arpOpcode p => s.deliver ((Encoded.arpOpcode p).carrier cfg.ownMac)
  | .ipProtocol b now => s.deliver ((Encoded.ipProtocol b now).carrier cfg.ownMac)
  | .icmpType src b => s.deliver ((Encoded.icmpType src b).carrier cfg.ownMac)
  | .udpDport src b => s.deliver ((Encoded.udpDport src b).carrier cfg.ownMac)
  | .dhcpOption b => s.deliver ((Encoded.dhcpOption b).carrier cfg.ownMac)
  | .tcpStateFlags found src b now =>
    (s.withKeyState cfg found).deliver ((Encoded.tcpStateFlags found src b now).carrier cfg.ownMac)
  | .cmd code args now => s.deliver ((Encoded.cmd code args now).carrier cfg.ownMac)

/-- The state whose next event runs the instruction of a table word; a word that names no row changes nothing. -/
def State.placeTableWord (cfg : Config) (s : State) (nbits w : Nat) : State :=
  match tableEncoded nbits w with
  | none => s
  | some e => s.placeEncoded cfg e

end Sys2Proof.Machine
end

