-- ==== Sys2Proof/Machine/Step.lean ====
section
/-! DEFINITION. One step of the machine: one event taken and its whole operation run to completion, every nested dispatch and effect
included (spec/20_memory.md R70). -/

namespace Sys2Proof.Machine

/-- One step (R17, R70): the oldest pending event is taken and the operation it starts runs to its end. With no event pending the
block "does nothing and holds its state" (R401). -/
def step (s : State) : Host.Outcome State Fault Refusal :=
  match s.pending with
  | [] => .next s
  | e :: _ =>
    match decodeEvent e with
    | .ok i => exec i s.dropPending
    | .error err => s.dropPending.rejectEvent err

/-- The state whose very next step runs the instruction of a table word: the environment delivers first the event that brings it,
and, for a TCP row, the table holds what the row's key names (log 14, 16). -/
def State.withFetchWord (s : State) (nbits w : Nat) : State := s.placeTableWord Config.chip nbits w

end Sys2Proof.Machine
end

