-- ==== Sys2Proof/Safety.lean ====
section
/-! DEFINITION. What a good state is, in the terms the statements use: the invariants of spec/10_state.md R35 with the canonical form
of the model's data, and the legal connection states of spec/48_tcp_api.md R352. -/

namespace Sys2Proof.Machine

/-- What holds of one record: R35 (a), (b), (c); the ranges of R30; `c.send_window_end` as created (R33); the ring's octets in
canonical form and inside the ring. -/
structure ConnOk (cfg : Config) (c : Conn) : Prop where
  window : c.sendWindowStart ≤ c.sendWindowEnd
  windowEnd : c.sendWindowEnd = cfg.sendWindowInit
  count : c.recvCount ≤ cfg.rxbufCap
  start : c.recvStart < cfg.rxbufCap
  ringEnd : c.recvEnd = (c.recvStart + c.recvCount) % cfg.rxbufCap
  bufWf : Memory.wf c.recvBuf
  bufInside : ∀ x ∈ c.recvBuf, x.1 < cfg.rxbufCap

/-- Two records with the same 4-tuple (R18, R29). -/
def sameTuple (c d : Conn) : Prop :=
  c.localIp = d.localIp ∧ c.remoteIp = d.remoteIp ∧ c.localPort = d.localPort ∧ c.remotePort = d.remotePort

/-- The invariants of R35: of every record (a) to (c), no shared 4-tuple (d), handles below `next_handle` and no shared handle (e;
the table stands in the order of creation, so handles rise), and no more than `MAX_CONN` records (R29). -/
structure State.Inv (cfg : Config) (s : State) : Prop where
  conns : ∀ c ∈ s.connTable, ConnOk cfg c
  tuples : s.connTable.Pairwise fun c d => ¬ sameTuple c d
  handles : s.connTable.Pairwise fun c d => c.handle < d.handle
  fresh : ∀ c ∈ s.connTable, c.handle < s.nextHandle
  capacity : ∀ n, cfg.maxConn = some n → s.connTable.length ≤ n

/-- The states a record can be in between events: "a record is never in CLOSED, CLOSE_WAIT or CLOSING; a record is in SYN_SENT at no
event boundary" (R31, R352). -/
def legalState : TcpState → Bool
  | .closed => false
  | .listen => true
  | .synSent => false
  | .synReceived => true
  | .established => true
  | .finWait1 => true
  | .finWait2 => true
  | .closeWait => false
  | .closing => false
  | .lastAck => true
  | .timeWait => true

/-- Every record is in a legal state (R352). -/
def State.LegalStates (s : State) : Prop := ∀ c ∈ s.connTable, legalState c.state = true

/-- The unread octets of a record, oldest first (R32): `recv_count` octets from `recv_start` on, modulo the capacity. -/
def Conn.unread (cfg : Config) (c : Conn) : Octets :=
  (List.range c.recvCount).map fun i => Memory.read c.recvBuf ((c.recvStart + i) % cfg.rxbufCap)

/-- What a dispatch to a nested arm comes to: the arm the decoder names runs in the same operation, and a header cut short is the drop
`MalformedPacket` (R16, R382). -/
def State.runNested (s : State) (r : Except DecodeError Instr) : Out :=
  match r with
  | .ok i => exec i s
  | .error _ => .next { s with results := s.results ++ [.rx (some .malformedPacket)] }

/-- One delivered option applied as DHCP.RX applies it (R265, R267). -/
def applyOption (s : State) (o : Octet × Nat × Octets) : State :=
  if o.1 = 1#8 ∧ 4 ≤ o.2.1 then { s with netmask := be32 o.2.2 0 }
  else if o.1 = 3#8 ∧ 4 ≤ o.2.1 then { s with gatewayIp := be32 o.2.2 0 }
  else s

/-- The instructions that can reach DHCP.RX (R39: the writers of RoutingConfig besides the setters and the option arms). -/
def canRunDhcp (i : Instr) : Prop :=
  (∃ p now, i = .ethRxIpv4 p now) ∨ (∃ p now, i = .ethRxIpv4Swapped p now) ∨ (∃ src p, i = .ipRxUdp src p)
    ∨ ∃ p, i = .udpRxDhcpClient p

/-- The instructions that can reach the no-connection arm of TCP.RX (R39: the writers of the flood counter). -/
def canCountSyn (i : Instr) : Prop :=
  (∃ p now, i = .ethRxIpv4 p now) ∨ (∃ p now, i = .ethRxIpv4Swapped p now) ∨ (∃ src p now, i = .ipRxTcp src p now)
    ∨ ∃ src seg now, i = .tcpRxNoconnSyn src seg now

/-- The instructions that can reach ARP.RX (R39: the writers of the cache). -/
def canRunArp (i : Instr) : Prop :=
  (∃ p, i = .ethRxArp p) ∨ (∃ p, i = .ethRxArpSwapped p) ∨ (∃ sha spa tpa, i = .arpRxRequest sha spa tpa)
    ∨ ∃ op sha spa tpa, i = .arpRxOther op sha spa tpa

/-- The UDP datagrams too short for UDP.RX (R250), or, to port 68, for DHCP.RX (R265). -/
def udpTooShort (b : Octets) : Prop := b.length < 8 ∨ (be16 b 2 = 68#16 ∧ (b.drop 8).length < 236)

/-- The TCP segments too short for their header (R292). -/
def tcpTooShort (b : Octets) : Prop := b.length < 20 ∨ b.length < (octetAt b 12).toNat / 16 * 4

/-- The IPv4 packets too short for their header (R211), or with a payload too short for the next one. -/
def ipTooShort (b : Octets) : Prop :=
  b.length < 20 ∨ b.length < (octetAt b 0).toNat % 16 * 4
    ∨ (octetAt b 9 = 1#8 ∧ (b.drop ((octetAt b 0).toNat % 16 * 4)).length < 8)
    ∨ (octetAt b 9 = 17#8 ∧ udpTooShort (b.drop ((octetAt b 0).toNat % 16 * 4)))
    ∨ (octetAt b 9 = 6#8 ∧ tcpTooShort (b.drop ((octetAt b 0).toNat % 16 * 4)))

/-- The instructions handed octets "too short for its header", at their own layer or at one they reach (R382). -/
def tooShort (i : Instr) : Prop :=
  (∃ b now, (i = .ethRxIpv4 b now ∨ i = .ethRxIpv4Swapped b now) ∧ ipTooShort b)
    ∨ (∃ p, (i = .ethRxArp p ∨ i = .ethRxArpSwapped p) ∧ p.length < 28)
    ∨ (∃ src b, i = .ipRxIcmp src b ∧ b.length < 8) ∨ (∃ src b, i = .ipRxUdp src b ∧ udpTooShort b)
    ∨ (∃ src b now, i = .ipRxTcp src b now ∧ tcpTooShort b) ∨ ∃ b, i = .udpRxDhcpClient b ∧ b.length < 236

/-- The arm of TCP's receive table that runs in `i` from `s`: `i` itself, or the arm that a segment which `i` hands to TCP.RX
selects (R107, R290). -/
def runsArm (s : State) (i arm : Instr) : Prop :=
  i = arm
    ∨ ∃ (src : Word32) (b : Octets) (now : Nat),
      decodeTcp (((parseTcp b).bind fun seg => s.lookupSegment src seg).map fun c => c.state) src b now = .ok arm
        ∧ (i = .ipRxTcp src b now
          ∨ ∃ p, decodeIp p now = .ok (.ipRxTcp src b now) ∧ (i = .ethRxIpv4 p now ∨ i = .ethRxIpv4Swapped p now))

end Sys2Proof.Machine
end

