-- ==== Sys2Proof/Certificates/Slice0/Obligations.lean ====
section
/-! DEFINITION. The statements for the provers. Each docstring says which rule of spec/ the statement formalises. Next states are
written out as record updates, so every field not named is unchanged: that is the frame of each instruction. `pending`, `effects`,
`results`, `isnDraws` and `txDraws` are the model's own fields for the boundary of R396 (its choice: log 1, 2, 4, 5): what a statement
says of them is what R17, R76, R176, R295 and R380 say of events, effects, draws and results, in the model's form. -/

open Sys2Proof Sys2Proof.Machine

/-! ### Reset, steps, events -/

/-- R38: the state after reset, register by register. The values of the cache, the table and the counters are the spec's decisions
D10, D11, D13 (log 20). -/
def Obligations.ResetState : Prop :=
  State.reset.ownIp = 0 ∧ State.reset.gatewayIp = 0 ∧ State.reset.netmask = 0
    ∧ State.reset.arpCache.ip = 0 ∧ State.reset.arpCache.mac = ⟨0, 0, 0, 0, 0, 0⟩
    ∧ State.reset.nextEphemeral = 49152#16 ∧ State.reset.synCount = 0 ∧ State.reset.synBucketStart = 0
    ∧ State.reset.nextHandle = 0 ∧ State.reset.connTable = []

/-- R17, R70: a step takes the oldest pending event and runs the instruction it decodes to. Events and atomic operations are the
spec's decisions D1, D2; the list of pending events is the model's (log 1). -/
def Obligations.StepRunsDecodedInstruction : Prop :=
  ∀ (s : State) (e : Event) (rest : List Event) (i : Instr),
    s.pending = e :: rest → decodeEvent e = .ok i → step s = exec i { s with pending := rest }

/-- R401, R170, R111: what a step does with no event, with a frame too short for an Ethernet header, and with a command code that is
not in the table. The idle step and the list of pending events are the model's choice (log 1), the codes are the spec's decision D7.
-/
def Obligations.StepWithoutInstruction : Prop :=
  (∀ s : State, s.pending = [] → step s = .next s)
    ∧ (∀ (s : State) (f : Octets) (now : Nat) (rest : List Event), s.pending = .rx f now :: rest → f.length < 14 →
        step s = .next { s with pending := rest, results := s.results ++ [.rx (some .malformedPacket)] })
    ∧ (∀ (s : State) (code : Octet) (args : List Operand) (now : Nat) (rest : List Event),
        s.pending = .cmd code args now :: rest →
        ¬ ((1 ≤ code.toNat ∧ code.toNat ≤ 7) ∨ (16 ≤ code.toNat ∧ code.toNat ≤ 21) ∨ (32 ≤ code.toNat ∧ code.toNat ≤ 37)) →
        step s = .refused .unknownCommandCode)

/-- R402, R383: whatever frame is received in whatever state, the event ends with a drop reason or `None`, never with
`ChecksumMismatch`, records exactly one result and only appends effects. An inference of the spec from R380 and every rule (R402),
in the model's form of results (log 2). -/
def Obligations.EveryReceiveEventEnds : Prop :=
  ∀ (s : State) (f : Octets) (now : Nat) (rest : List Event), s.pending = .rx f now :: rest →
    ∃ t r, step s = .next t ∧ t.pending = rest ∧ t.results = s.results ++ [.rx r] ∧ r ≠ some .checksumMismatch
      ∧ s.effects <+: t.effects

/-- R402, R384: every command of the table whose operands are inside their bounds ends with one returned value, from every state
that keeps the invariants of R35. An inference of the spec (R402), in the model's form of results (log 2). -/
def Obligations.EveryCommandEnds : Prop :=
  ∀ (s : State) (code : Octet) (args : List Operand) (now : Nat) (rest : List Event) (i : Instr),
    s.Inv Config.chip → s.pending = .cmd code args now :: rest → decodeCommand code args = .ok i → i.wellFormed = true →
    ∃ t v, step s = .next t ∧ t.pending = rest ∧ t.results = s.results ++ [.ret v] ∧ s.effects <+: t.effects

/-! ### Decoding -/

/-- R92, R95, R98, R100, R102, R107, R110, R111: a few words written out octet by octet decode to the instruction they stand for.
What a constructor holds is the model's choice (log 10); keys decided by the spec: D7, D18, D20, D24. -/
def Obligations.DecodeKnownWords : Prop :=
  decode (.ethertype [0x52, 0x54, 0x00, 0x12, 0x34, 0x56, 0x02, 0x00, 0x00, 0x00, 0x00, 0x05, 0x00, 0x08, 0xAA] 3)
      = .ok (.ethRxIpv4Swapped [0xAA] 3)
    ∧ decode (.arpOpcode [0xff, 0xff, 0x08, 0x00, 0x06, 0x04, 0x01, 0x00, 0x02, 0x00, 0x00, 0x00, 0x00, 0x09, 0x0a, 0x00, 0x00, 0x09,
          0x00, 0x00, 0x00, 0x00, 0x00, 0x00, 0x0a, 0x00, 0x00, 0x2a])
      = .ok (.arpRxOther 0x0100#16 ⟨0x02, 0x00, 0x00, 0x00, 0x00, 0x09⟩ 0x0a000009#32 0x0a00002a#32)
    ∧ decode (.ipProtocol [0x46, 0x00, 0x00, 0x20, 0x00, 0x00, 0x00, 0x00, 0x40, 0x01, 0x63, 0xae, 0x0a, 0x00, 0x00, 0x05, 0x0a, 0x00,
          0x00, 0x2a, 0x01, 0x01, 0x01, 0x00, 0x00, 0x00, 0xff, 0xf6, 0x00, 0x00, 0x00, 0x09] 0)
      = .ok (.ipRxIcmp 0x0a000005#32 [0x00, 0x00, 0xff, 0xf6, 0x00, 0x00, 0x00, 0x09])
    ∧ decode (.icmpType 0x0a000005#32 [0x00, 0x00, 0xff, 0xf6, 0x00, 0x00, 0x00, 0x09])
      = .ok (.icmpRxEchoReply 0x0a000005#32 8 9#16)
    ∧ decode (.udpDport 0 [0x00, 0x44, 0x00, 0x43, 0x00, 0x08, 0x00, 0x00]) = .ok (.udpRxOther 67#16)
    ∧ decode (.dhcpOption [0x03, 0x04, 0x0a, 0x00, 0x00, 0x01, 0xff]) = .ok (.dhcpOptRouter [0x0a, 0x00, 0x00, 0x01])
    ∧ decode (.tcpStateFlags none 0x0a000005#32 [0x9c, 0x40, 0x00, 0x50, 0x00, 0x00, 0x20, 0x00, 0x00, 0x00, 0x00, 0x00, 0x50, 0x02,
          0x20, 0x00, 0xbf, 0x23, 0x00, 0x00] 100)
      = .ok (.tcpRxNoconnSyn 0x0a000005#32 ⟨40000, 80, 0x2000, 0, 0x02, 0x2000, []⟩ 100)
    ∧ decode (.cmd 0x25 [.addr 0x0a000005#32, .half 80#16] 0) = .ok (.tcpConnect 0x0a000005#32 80#16)

/-- R90 to R111: decoding an encoded well-formed instruction gives it back, every operand included. Constructors and encoder are the
model's choice (log 10). -/
def Obligations.DecodeEncode : Prop := ∀ i : Instr, i.wellFormed = true → decode (encode i) = .ok i

/-- R92 to R110: a receive arm that the dispatch answers is well formed: no fixed row's key reaches the catch-all arm of its format, and
a TCP arm is answered only where its condition on flags and data holds. That a key without a row reaches no fixed row's arm is
DecodedRowMatches. Well-formedness is the model's choice (log 10, 15). -/
def Obligations.DecodedReceiveArmsWellFormed : Prop :=
  ∀ (e : Encoded) (i : Instr), e.format ≠ .cmd → decode e = .ok i → i.wellFormed = true

/-- R117: the arm is selected when `key & mask = match`, for the row of spec/opcode_table.json and the key of the format. The codes
are the spec's decisions D7, D12. -/
def Obligations.DecodedRowMatches : Prop :=
  ∀ (e : Encoded) (i : Instr), decode e = .ok i → i.row.format = e.format ∧ e.key &&& i.row.mask = i.row.value

/-! ### Serialization -/

/-- R140 to R143: the values of the big-endian fields, the octets written, the round-trip laws. -/
def Obligations.BigEndianRoundTrips : Prop :=
  (∀ (b : Octets) (i : Nat), (be16 b i).toNat = (octetAt b i).toNat * 256 + (octetAt b (i + 1)).toNat)
    ∧ (∀ (b : Octets) (i : Nat), (be32 b i).toNat =
        (octetAt b i).toNat * 2 ^ 24 + (octetAt b (i + 1)).toNat * 2 ^ 16 + (octetAt b (i + 2)).toNat * 2 ^ 8
          + (octetAt b (i + 3)).toNat)
    ∧ (∀ v : Word16, put16 v = [BitVec.ofNat 8 (v.toNat / 256), BitVec.ofNat 8 v.toNat])
    ∧ (∀ v : Word32, put32 v =
        [BitVec.ofNat 8 (v.toNat / 2 ^ 24), BitVec.ofNat 8 (v.toNat / 2 ^ 16), BitVec.ofNat 8 (v.toNat / 2 ^ 8), BitVec.ofNat 8 v.toNat])
    ∧ (∀ v : Word16, be16 (put16 v) 0 = v) ∧ (∀ a b : Octet, put16 (be16 [a, b] 0) = [a, b])
    ∧ (∀ v : Word32, be32 (put32 v) 0 = v) ∧ (∀ a b c d : Octet, put32 (be32 [a, b, c, d] 0) = [a, b, c, d])

/-- R150, R151 (b), (d): the checksum in closed form, the complement of the word sum folded into 16 bits; trailing zeros that fill
up words change nothing; 0xFFFF is the checksum of zeros alone. The details of the sum are the spec's decision D27; (b) and (d) are
its inference (R151). -/
def Obligations.ChecksumValue : Prop :=
  (∀ b : Octets, (checksum b).toNat = 65535 - (if wordSum b = 0 then 0 else (wordSum b - 1) % 65535 + 1))
    ∧ (∀ b : Octets, checksum (b ++ [0, 0]) = checksum b) ∧ (∀ b : Octets, b.length % 2 = 1 → checksum (b ++ [0]) = checksum b)
    ∧ (∀ b : Octets, checksum b = 0xffff#16 ↔ ∀ o ∈ b, o = 0)

/-- R151 (a), R152: with the field zeroed, inserting the checksum makes the checksum of the whole 0, also for a string of odd length
and with an even prefix that is summed and not sent. (a) is the source's testable property, the rest follows from R150 (decision
D27). -/
def Obligations.InsertedChecksumVerifies : Prop :=
  ∀ (p h : Octets) (k : Nat), p.length % 2 = 0 → k % 2 = 0 → k + 2 ≤ h.length →
    octetAt h k = 0 → octetAt h (k + 1) = 0 → checksum (p ++ insertChecksum p h k) = 0

/-- R109, R160, R162: an encoded option is its code, its length and its value, the end option is 255. Walking from any offset delivers
exactly the encoded options that stand there, in order, with any number of pad octets (code 0) before each and after the last, up to where
the walk stops: the end of the octets, the end option (nothing after it is read), a code without a length octet, or a value cut short
(that option is not delivered). Every octet string from the offset on has this form. The silent stops are the spec's decision D32; the law is
its inference (R162). -/
def Obligations.TlvWalkOfEncoded : Prop :=
  (∀ (c : Octet) (v : Octets), tlvEncode c v = [c, BitVec.ofNat 8 v.length] ++ v) ∧ tlvEnd = [255#8]
  ∧ ∀ (before : Octets) (opts : List (Nat × Octet × Octets)) (pads : Nat) (tail : Octets),
    (∀ o ∈ opts, o.2.1 ≠ 0 ∧ o.2.1 ≠ 255 ∧ o.2.2.length ≤ 255) →
    (tail = [] ∨ (∃ rest, tail = tlvEnd ++ rest) ∨ (∃ c : Octet, c ≠ 0 ∧ c ≠ 255 ∧ tail = [c])
      ∨ ∃ (c n : Octet) (v : Octets), c ≠ 0 ∧ c ≠ 255 ∧ v.length < n.toNat ∧ tail = [c, n] ++ v) →
    tlvWalk (before ++ (opts.flatMap fun o => List.replicate o.1 0 ++ tlvEncode o.2.1 o.2.2) ++ List.replicate pads 0 ++ tail)
        before.length
      = opts.map fun o => (o.2.1, o.2.2.length, o.2.2)

/-- R160, R161: whatever the stream, each delivered option stands whole in the octets from the start offset on; a start at or beyond
the end delivers nothing. The silent stops are the spec's decision D32, R161 is its inference. -/
def Obligations.TlvWalkStaysInside : Prop :=
  ∀ (b : Octets) (off : Nat),
    (b.length ≤ off → tlvWalk b off = [])
      ∧ ∀ o ∈ tlvWalk b off, o.1 ≠ 0 ∧ o.1 ≠ 255 ∧ o.2.1 = o.2.2.length ∧ o.2.1 ≤ 255
          ∧ (o.1 :: BitVec.ofNat 8 o.2.1 :: o.2.2) <:+: b.drop off

/-! ### Ethernet -/

/-- R175, R176: ETH.SEND asks for `14 + len` octets and emits one frame, or none where the draw is false. The draw is the spec's decision
D5; its number and count are the model's choice (log 5), the lists of effects and results too (log 2). -/
def Obligations.EthSend : Prop :=
  ∀ (m : Mac) (t : Word16) (p : Octets) (s : State),
    exec (.ethSend m t p) s = .next { s with
      txDraws := s.txDraws + 1
      effects := s.effects ++
        (if Config.chip.txAlloc s.txDraws (14 + p.length) then [.tx (m.octets ++ Config.chip.ownMac.octets ++ put16 t ++ p)] else [])
      results := s.results ++ [.ret .nothing] }

/-- R146, R171 (the spec's decision D18): the octet swap; type octets 00 08 are handled exactly as 08 00, and 06 08 exactly as 08 06. -/
def Obligations.EtherTypeBothOrders : Prop :=
  (∀ v : Word16, (swap16 v).toNat = v.toNat % 256 * 256 + v.toNat / 256 ∧ swap16 (swap16 v) = v)
    ∧ swap16 0x0800#16 = 0x0008#16 ∧ swap16 0x0806#16 = 0x0608#16
    ∧ ∀ (s : State) (addresses payload : Octets) (now : Nat), addresses.length = 12 →
      step (s.deliver (.rx (addresses ++ [0x00, 0x08] ++ payload) now))
          = step (s.deliver (.rx (addresses ++ [0x08, 0x00] ++ payload) now))
        ∧ step (s.deliver (.rx (addresses ++ [0x06, 0x08] ++ payload) now))
          = step (s.deliver (.rx (addresses ++ [0x08, 0x06] ++ payload) now))

/-- R172: every other type is dropped with no state change, no frame and no log. The name of the drop is the spec's decision D8. -/
def Obligations.UnknownEtherTypeDropped : Prop :=
  ∀ (s : State) (addresses payload : Octets) (t : Word16) (now : Nat), addresses.length = 12 →
    t ≠ 0x0800#16 → t ≠ 0x0008#16 → t ≠ 0x0806#16 → t ≠ 0x0608#16 →
    step (s.deliver (.rx (addresses ++ put16 t ++ payload) now))
        = .next { s with results := s.results ++ [.rx (some .unknownEtherType)] }
      ∧ exec (.ethRxUnknown t) s = .next { s with results := s.results ++ [.rx (some .unknownEtherType)] }

/-- R170, R171, R172: what a received frame does, and that the Ethernet arms run, in the same operation, the arm the payload decodes to,
and end. The keys 0x0008 and 0x0608 are the spec's decision D18 (R92, R171), the name `UnknownEtherType` its decision D8 (R172), and the
arms as instructions are the model's choice (log 10). -/
def Obligations.EthernetDispatch : Prop :=
  (∀ (f : Octets) (now : Nat) (s : State),
      step (s.deliver (.rx f now)) =
        if f.length < 14 then .next { s with results := s.results ++ [.rx (some .malformedPacket)] }
        else if be16 f 12 = 0x0800#16 ∨ be16 f 12 = 0x0008#16 then s.runNested (decodeIp (f.drop 14) now)
        else if be16 f 12 = 0x0806#16 ∨ be16 f 12 = 0x0608#16 then s.runNested (decodeArp (f.drop 14))
        else .next { s with results := s.results ++ [.rx (some .unknownEtherType)] })
    ∧ ∀ (p : Octets) (now : Nat) (s : State),
      exec (.ethRxIpv4 p now) s = s.runNested (decodeIp p now) ∧ exec (.ethRxIpv4Swapped p now) s = s.runNested (decodeIp p now)
        ∧ exec (.ethRxArp p) s = s.runNested (decodeArp p) ∧ exec (.ethRxArpSwapped p) s = s.runNested (decodeArp p)
        ∧ (∃ t, exec (.ethRxIpv4 p now) s = .next t) ∧ (∃ t, exec (.ethRxIpv4Swapped p now) s = .next t)
        ∧ (∃ t, exec (.ethRxArp p) s = .next t) ∧ ∃ t, exec (.ethRxArpSwapped p) s = .next t

/-- R382: every place `MalformedPacket` is raised: nothing but the result changes. The decoder of each format answers
`MalformedPacket` exactly there, a malformed option stream never does, and of all instructions exactly those handed octets too short
for a header end with it. The lengths other than 14 are the spec's decision D24. -/
def Obligations.MalformedPacketPlaces : Prop :=
  ∀ s : State,
    (∀ (f : Octets) (now : Nat), f.length < 14 →
        step (s.deliver (.rx f now)) = .next { s with results := s.results ++ [.rx (some .malformedPacket)] })
      ∧ (∀ p : Octets, p.length < 28 →
        exec (.ethRxArp p) s = .next { s with results := s.results ++ [.rx (some .malformedPacket)] })
      ∧ (∀ (b : Octets) (now : Nat), b.length < 20 ∨ b.length < (octetAt b 0).toNat % 16 * 4 →
        exec (.ethRxIpv4 b now) s = .next { s with results := s.results ++ [.rx (some .malformedPacket)] })
      ∧ (∀ (src : Word32) (b : Octets), b.length < 8 →
        exec (.ipRxIcmp src b) s = .next { s with results := s.results ++ [.rx (some .malformedPacket)] })
      ∧ (∀ (src : Word32) (b : Octets), b.length < 8 →
        exec (.ipRxUdp src b) s = .next { s with results := s.results ++ [.rx (some .malformedPacket)] })
      ∧ (∀ b : Octets, b.length < 236 →
        exec (.udpRxDhcpClient b) s = .next { s with results := s.results ++ [.rx (some .malformedPacket)] })
      ∧ (∀ (src : Word32) (b : Octets) (now : Nat), b.length < 20 ∨ b.length < (octetAt b 12).toNat / 16 * 4 →
        exec (.ipRxTcp src b now) s = .next { s with results := s.results ++ [.rx (some .malformedPacket)] })
      ∧ (∀ (f : Octets) (now : Nat), decodeFrame f now = .error .malformedPacket ↔ f.length < 14)
      ∧ (∀ p : Octets, decodeArp p = .error .malformedPacket ↔ p.length < 28)
      ∧ (∀ (b : Octets) (now : Nat),
        decodeIp b now = .error .malformedPacket ↔ b.length < 20 ∨ b.length < (octetAt b 0).toNat % 16 * 4)
      ∧ (∀ (src : Word32) (b : Octets), decodeIcmp src b = .error .malformedPacket ↔ b.length < 8)
      ∧ (∀ b : Octets, decodeUdp b = .error .malformedPacket ↔ b.length < 8)
      ∧ (∀ (found : Option TcpState) (src : Word32) (b : Octets) (now : Nat),
        decodeTcp found src b now = .error .malformedPacket ↔ b.length < 20 ∨ b.length < (octetAt b 12).toNat / 16 * 4)
      ∧ (∀ b : Octets, 236 ≤ b.length →
        ∃ t r, exec (.udpRxDhcpClient b) s = .next t ∧ t.results = s.results ++ [.rx r] ∧ r ≠ some .malformedPacket)
      ∧ ∀ (i : Instr) (t : State), exec i s = .next t → (t.results = s.results ++ [.rx (some .malformedPacket)] ↔ tooShort i)

/-! ### ARP -/

/-- R190, R192, R193: an ARP packet for us overwrites the cache whatever its opcode, and a request is answered to its sender; one
for another address is dropped with no change. What is looked at and what a reply holds are the spec's decisions D8, D20, D21. -/
def Obligations.ArpReceive : Prop :=
  ∀ (op : Word16) (sha : Mac) (spa tpa : Word32) (s : State),
    (∀ p : Octets,
      exec (.ethRxArp p) s =
        if p.length < 28 then .next { s with results := s.results ++ [.rx (some .malformedPacket)] }
        else if be16 p 6 = 1#16 then exec (.arpRxRequest (macAt p 8) (be32 p 14) (be32 p 24)) s
        else exec (.arpRxOther (be16 p 6) (macAt p 8) (be32 p 14) (be32 p 24)) s)
    ∧ (tpa = s.ownIp →
        exec (.arpRxRequest sha spa tpa) s = .next { s with
          arpCache := ⟨spa, sha⟩
          txDraws := s.txDraws + 1
          effects := s.effects ++
            (if Config.chip.txAlloc s.txDraws 60 then
              [.tx (sha.octets ++ Config.chip.ownMac.octets ++ [0x08, 0x06]
                ++ ([0x00, 0x01, 0x08, 0x00, 0x06, 0x04, 0x00, 0x02] ++ Config.chip.ownMac.octets ++ put32 s.ownIp ++ sha.octets
                  ++ put32 spa ++ List.replicate 18 0))] else [])
          results := s.results ++ [.rx none] }
        ∧ exec (.arpRxOther op sha spa tpa) s = .next { s with arpCache := ⟨spa, sha⟩, results := s.results ++ [.rx none] })
      ∧ (tpa ≠ s.ownIp →
        exec (.arpRxRequest sha spa tpa) s = .next { s with results := s.results ++ [.rx (some .arpNotForUs)] }
        ∧ exec (.arpRxOther op sha spa tpa) s = .next { s with results := s.results ++ [.rx (some .arpNotForUs)] })

/-- R194, R196: the 46 octets of a built ARP packet; ARP.RESOLVE returns the cached MAC on a hit and emits nothing, and on a miss emits
one frame, the one ARP.REQUEST emits, and returns the broadcast MAC. That the padding is 18 zero octets is the spec's decision D21 (R94);
that the broadcast MAC is all ones is general knowledge (G1, R144, log 19). -/
def Obligations.ArpResolution : Prop :=
  (∀ (ownIp : Word32) (op : Word16) (tha : Mac) (tpa : Word32),
      buildArp Config.chip ownIp op tha tpa =
          [0x00, 0x01, 0x08, 0x00, 0x06, 0x04] ++ put16 op ++ Config.chip.ownMac.octets ++ put32 ownIp ++ tha.octets ++ put32 tpa
            ++ List.replicate 18 0
        ∧ (buildArp Config.chip ownIp op tha tpa).length = 46)
    ∧ ∀ (target : Word32) (s : State),
      (target = s.arpCache.ip →
          exec (.arpResolve target) s = .next { s with results := s.results ++ [.ret (.mac s.arpCache.mac)] })
        ∧ (target ≠ s.arpCache.ip → ∃ f : Octets,
          exec (.arpRequest target) s = .next { s with
              txDraws := s.txDraws + 1
              effects := s.effects ++ (if Config.chip.txAlloc s.txDraws f.length then [.tx f] else [])
              results := s.results ++ [.ret .nothing] }
            ∧ exec (.arpResolve target) s = .next { s with
              txDraws := s.txDraws + 1
              effects := s.effects ++ (if Config.chip.txAlloc s.txDraws f.length then [.tx f] else [])
              results := s.results ++ [.ret (.mac ⟨0xff, 0xff, 0xff, 0xff, 0xff, 0xff⟩)] })

/-- R195 (the all-zero target hardware address is the spec's decision D21): ARP.REQUEST broadcasts one 60-octet request. -/
def Obligations.ArpRequest : Prop :=
  ∀ (target : Word32) (s : State) (f : Octets),
    f = List.replicate 6 0xff ++ Config.chip.ownMac.octets ++ [0x08, 0x06]
        ++ ([0x00, 0x01, 0x08, 0x00, 0x06, 0x04, 0x00, 0x01] ++ Config.chip.ownMac.octets ++ put32 s.ownIp ++ List.replicate 6 0
          ++ put32 target ++ List.replicate 18 0) →
    f.length = 60
      ∧ exec (.arpRequest target) s = .next { s with
          txDraws := s.txDraws + 1
          effects := s.effects ++ (if Config.chip.txAlloc s.txDraws 60 then [.tx f] else [])
          results := s.results ++ [.ret .nothing] }

/-! ### IPv4 -/

/-- R219: the 20 octets of a built IPv4 header; its checksum verifies. The fields the source leaves open are the spec's decision
D23. -/
def Obligations.IpHeaderLayout : Prop :=
  ∀ (ownIp dest : Word32) (protocol : Octet) (n : Nat), n ≤ 65515 →
    (∃ ck : Word16,
        buildIpHeader ownIp dest protocol n =
          [0x45, 0x00] ++ put16 (BitVec.ofNat 16 (20 + n)) ++ [0x00, 0x00, 0x00, 0x00, 64, protocol] ++ put16 ck
            ++ put32 ownIp ++ put32 dest
        ∧ ck = checksum ([0x45, 0x00] ++ put16 (BitVec.ofNat 16 (20 + n)) ++ [0x00, 0x00, 0x00, 0x00, 64, protocol, 0x00, 0x00]
            ++ put32 ownIp ++ put32 dest))
      ∧ (buildIpHeader ownIp dest protocol n).length = 20 ∧ checksum (buildIpHeader ownIp dest protocol n) = 0

/-- R218: the next hop is the destination on the subnet and the gateway off it; on a hit of the cache one frame goes to the cached
MAC; on a miss (R196) the frame of ARP.REQUEST for the next hop goes first and the packet goes to the broadcast MAC. The order on a miss is
the spec's inference (R221); that the broadcast MAC is all ones is general knowledge (G1, R144, log 19). -/
def Obligations.IpSend : Prop :=
  ∀ (dest : Word32) (protocol : Octet) (p : Octets) (s : State) (hop : Word32), p.length ≤ 65515 →
    hop = (if dest &&& s.netmask = s.ownIp &&& s.netmask then dest else s.gatewayIp) →
    (hop = s.arpCache.ip →
        exec (.ipSend dest protocol p) s = .next { s with
          txDraws := s.txDraws + 1
          effects := s.effects ++
            (if Config.chip.txAlloc s.txDraws (34 + p.length) then
              [.tx (s.arpCache.mac.octets ++ Config.chip.ownMac.octets ++ [0x08, 0x00]
                ++ (buildIpHeader s.ownIp dest protocol p.length ++ p))] else [])
          results := s.results ++ [.ret .nothing] })
      ∧ (hop ≠ s.arpCache.ip →
        exec (.ipSend dest protocol p) s = .next { s with
          txDraws := s.txDraws + 2
          effects := (arpRequest Config.chip hop s).effects
            ++ (if Config.chip.txAlloc (s.txDraws + 1) (34 + p.length) then
                [.tx (List.replicate 6 0xff ++ Config.chip.ownMac.octets ++ [0x08, 0x00]
                  ++ (buildIpHeader s.ownIp dest protocol p.length ++ p))] else [])
          results := s.results ++ [.ret .nothing] })

/-- R225 to R230: the getters return the register and change nothing; each setter writes its register, whatever the value, and nothing
else; the next-hop test works bit by bit with whatever mask is set. -/
def Obligations.IpAccessors : Prop :=
  ∀ (v : Word32) (s : State),
    exec .ipGetIp s = .next { s with results := s.results ++ [.ret (.word s.ownIp)] }
      ∧ exec .ipGetGateway s = .next { s with results := s.results ++ [.ret (.word s.gatewayIp)] }
      ∧ exec .ipGetNetmask s = .next { s with results := s.results ++ [.ret (.word s.netmask)] }
      ∧ exec (.ipSetIp v) s = .next { s with ownIp := v, results := s.results ++ [.ret .nothing] }
      ∧ exec (.ipSetGateway v) s = .next { s with gatewayIp := v, results := s.results ++ [.ret .nothing] }
      ∧ exec (.ipSetNetmask v) s = .next { s with netmask := v, results := s.results ++ [.ret .nothing] }
      ∧ ∀ dest : Word32, ({ s with netmask := v }).nextHop dest = if dest &&& v = s.ownIp &&& v then dest else s.gatewayIp

/-- R210, R98, R105, R290 to R292, R294: what a received packet does, and that the IPv4 arms run, in the same operation, the arm their
payload decodes to, and end; an unknown protocol is dropped. For TCP: what `ParseTcp` reads at which offset of any octets, data from
`(b[12] >> 4) * 4` on for every nibble, which record the lookup finds, and the arm its state selects. The tests of `IHL*4` and of the TCP
header length are the spec's decision D24 (R211, R292), the name `UnknownProtocol` its decisions D8 and D25 (R213), and the arms as
instructions selected by the state found are the model's choice (log 10). -/
def Obligations.IpDispatch : Prop :=
  (∀ (b : Octets) (now : Nat) (s : State) (hl : Nat) (src : Word32) (p : Octets),
      hl = (octetAt b 0).toNat % 16 * 4 → src = be32 b 12 → p = b.drop hl →
      exec (.ethRxIpv4 b now) s =
        if b.length < 20 then .next { s with results := s.results ++ [.rx (some .malformedPacket)] }
        else if b.length < hl then .next { s with results := s.results ++ [.rx (some .malformedPacket)] }
        else if octetAt b 9 = 1#8 then exec (.ipRxIcmp src p) s
        else if octetAt b 9 = 17#8 then exec (.ipRxUdp src p) s
        else if octetAt b 9 = 6#8 then exec (.ipRxTcp src p now) s
        else .next { s with results := s.results ++ [.rx (some .unknownProtocol)] })
    ∧ ∀ (src : Word32) (b : Octets) (now : Nat) (s : State),
      exec (.ipRxIcmp src b) s = s.runNested (decodeIcmp src b) ∧ exec (.ipRxUdp src b) s = s.runNested (decodeUdp b)
        ∧ exec (.ipRxTcp src b now) s
          = s.runNested (decodeTcp (((parseTcp b).bind fun seg => s.lookupSegment src seg).map fun c => c.state) src b now)
        ∧ (∀ (seg : TcpSeg) (found : Option Conn),
          seg = { srcPort := be16 b 0, dstPort := be16 b 2, seq := be32 b 4, ack := be32 b 8, flags := octetAt b 13, window := be16 b 14
                  data := b.drop ((octetAt b 12).toNat / 16 * 4) } →
          found = (s.connTable.find? fun c =>
            decide (c.localIp = s.ownIp ∧ c.remoteIp = src ∧ c.localPort = be16 b 2 ∧ c.remotePort = be16 b 0)) →
          parseTcp b = (if b.length < 20 ∨ b.length < (octetAt b 12).toNat / 16 * 4 then none else some seg)
            ∧ s.lookupSegment src seg = found
            ∧ exec (.ipRxTcp src b now) s =
              if b.length < 20 ∨ b.length < (octetAt b 12).toNat / 16 * 4 then
                .next { s with results := s.results ++ [.rx (some .malformedPacket)] }
              else exec (instrOfSegment (found.map fun c => c.state) src seg now) s)
        ∧ (∃ t, exec (.ipRxIcmp src b) s = .next t) ∧ (∃ t, exec (.ipRxUdp src b) s = .next t)
        ∧ (∃ t, exec (.ipRxTcp src b now) s = .next t)
        ∧ ∀ protocol : Octet, exec (.ipRxUnknown protocol) s = .next { s with results := s.results ++ [.rx (some .unknownProtocol)] }

/-- R173, R191, R212, R242, R251: fields that are never looked at. Two frames, packets or datagrams of one length that agree on the
fields a layer reads are handled alike. The spec's decisions D19, D20, D24, D28, D29. -/
def Obligations.IgnoredHeaderFields : Prop :=
  ∀ s : State,
    (∀ (f f' : Octets) (now : Nat), f.length = f'.length → f.drop 12 = f'.drop 12 →
        step (s.deliver (.rx f now)) = step (s.deliver (.rx f' now)))
      ∧ (∀ p p' : Octets, 28 ≤ p.length → 28 ≤ p'.length → be16 p 6 = be16 p' 6 → macAt p 8 = macAt p' 8 →
        be32 p 14 = be32 p' 14 → be32 p 24 = be32 p' 24 → exec (.ethRxArp p) s = exec (.ethRxArp p') s)
      ∧ (∀ (b b' : Octets) (now : Nat), b.length = b'.length → (octetAt b 0).toNat % 16 = (octetAt b' 0).toNat % 16 →
        octetAt b 9 = octetAt b' 9 → be32 b 12 = be32 b' 12 →
        b.drop ((octetAt b 0).toNat % 16 * 4) = b'.drop ((octetAt b 0).toNat % 16 * 4) →
        exec (.ethRxIpv4 b now) s = exec (.ethRxIpv4 b' now) s)
      ∧ (∀ (src : Word32) (b b' : Octets), b.length = b'.length → octetAt b 0 = octetAt b' 0 → be16 b 6 = be16 b' 6 →
        exec (.ipRxIcmp src b) s = exec (.ipRxIcmp src b') s)
      ∧ (∀ (src src' : Word32) (b b' : Octets), b.length = b'.length → be16 b 2 = be16 b' 2 → b.drop 8 = b'.drop 8 →
        exec (.ipRxUdp src b) s = exec (.ipRxUdp src' b') s)

/-- R383: no received checksum is looked at. Any value in the checksum field of an IPv4, ICMP, UDP or TCP header gives the same
outcome (for IPv4 and TCP where the header length says that the field lies in the header). -/
def Obligations.ReceivedChecksumsIgnored : Prop :=
  ∀ (src : Word32) (b : Octets) (now : Nat) (v : Word16) (s : State),
    (20 ≤ b.length → 20 ≤ (octetAt b 0).toNat % 16 * 4 →
        exec (.ethRxIpv4 (setHalfAt b 10 v) now) s = exec (.ethRxIpv4 b now) s)
      ∧ (8 ≤ b.length → exec (.ipRxIcmp src (setHalfAt b 2 v)) s = exec (.ipRxIcmp src b) s)
      ∧ (8 ≤ b.length → exec (.ipRxUdp src (setHalfAt b 6 v)) s = exec (.ipRxUdp src b) s)
      ∧ (20 ≤ b.length → 20 ≤ (octetAt b 12).toNat / 16 * 4 →
        exec (.ipRxTcp src (setHalfAt b 16 v) now) s = exec (.ipRxTcp src b now) s)

/-! ### ICMP and UDP -/

/-- R241: an echo reply is logged with its source, length and sequence number; a shorter message is malformed; every other type is
ignored. The form of the log record and what counts as its length are the spec's decisions D9, D28. -/
def Obligations.IcmpReceive : Prop :=
  ∀ (src : Word32) (s : State),
    (∀ b : Octets,
        exec (.ipRxIcmp src b) s =
          if b.length < 8 then .next { s with results := s.results ++ [.rx (some .malformedPacket)] }
          else if octetAt b 0 = 0#8 then
            .next { s with
              effects := s.effects ++ [.log .info (.icmpEchoReply src b.length (be16 b 6))]
              results := s.results ++ [.rx none] }
          else .next { s with results := s.results ++ [.rx (some .icmpIgnored)] })
      ∧ (∀ (n : Nat) (q : Word16),
        exec (.icmpRxEchoReply src n q) s = .next { s with
          effects := s.effects ++ [.log .info (.icmpEchoReply src n q)]
          results := s.results ++ [.rx none] })
      ∧ ∀ t : Octet, exec (.icmpRxOther t) s = .next { s with results := s.results ++ [.rx (some .icmpIgnored)] }

/-- R240: ICMP.ECHO is IP.SEND, with protocol 1, of the 40-octet echo request, whose checksum verifies. The spec's decision D28;
type 8 and code 0 are general knowledge (G3, log 19). -/
def Obligations.IcmpEcho : Prop :=
  ∀ (dest : Word32) (ident sequence : Word16) (s : State),
    ∃ (m : Octets) (ck : Word16),
      m = [8, 0] ++ put16 ck ++ put16 ident ++ put16 sequence ++ Config.chip.icmpPayload
        ∧ ck = checksum ([8, 0, 0, 0] ++ put16 ident ++ put16 sequence ++ Config.chip.icmpPayload)
        ∧ m.length = 40 ∧ (∀ o ∈ Config.chip.icmpPayload, isAsciiLetter o = true) ∧ checksum m = 0
        ∧ exec (.icmpEcho dest ident sequence) s = exec (.ipSend dest 1 m) s
        ∧ ∃ t, exec (.icmpEcho dest ident sequence) s = .next t

/-- R250: the destination port alone decides: 68 runs the DHCP client on the octets after the header, every other port is dropped.
The spec's decisions D8, D29. -/
def Obligations.UdpReceive : Prop :=
  ∀ (src : Word32) (s : State),
    (∀ b : Octets,
        exec (.ipRxUdp src b) s =
          if b.length < 8 then .next { s with results := s.results ++ [.rx (some .malformedPacket)] }
          else if be16 b 2 = 68#16 then exec (.udpRxDhcpClient (b.drop 8)) s
          else .next { s with results := s.results ++ [.rx (some .unknownPort)] })
      ∧ ∀ port : Word16, exec (.udpRxOther port) s = .next { s with results := s.results ++ [.rx (some .unknownPort)] }

/-- R252 (its length field is the spec's decision D29), R222, R253 (the bounds and the refusal are the spec's decision D26): UDP.SEND is
IP.SEND, with protocol 17, of an 8-octet header with zero checksum and the payload; UDP.SEND of over 65507 octets and IP.SEND of over
65515 octets are refused. -/
def Obligations.UdpSend : Prop :=
  ∀ (dest : Word32) (sp dp : Word16) (p : Octets) (s : State),
    (p.length ≤ 65507 →
        exec (.udpSend dest sp dp p) s
            = exec (.ipSend dest 17 (put16 sp ++ put16 dp ++ put16 (BitVec.ofNat 16 (8 + p.length)) ++ [0, 0] ++ p)) s
          ∧ ∃ t, exec (.udpSend dest sp dp p) s = .next t)
      ∧ (65507 < p.length → exec (.udpSend dest sp dp p) s = .refused .payloadTooLong)
      ∧ ∀ protocol : Octet, 65515 < p.length → exec (.ipSend dest protocol p) s = .refused .payloadTooLong

/-! ### DHCP -/

/-- R260, R261: DHCP.DISCOVER is UDP.SEND of the DISCOVER message from port 68 to 255.255.255.255 port 67. The spec's decision D30;
BOOTREQUEST, `htype`, `hlen` and the widths are general knowledge (G4, G6, log 19). -/
def Obligations.DhcpDiscover : Prop :=
  ∀ s : State, ∃ m : Octets,
    m = [1, 1, 6, 0] ++ put32 Config.chip.dhcpXid ++ [0, 0] ++ put16 Config.chip.dhcpFlags
          ++ [0, 0, 0, 0] ++ [0, 0, 0, 0] ++ [0, 0, 0, 0] ++ [0, 0, 0, 0]
          ++ Config.chip.ownMac.octets ++ List.replicate 10 0 ++ List.replicate 64 0 ++ List.replicate 128 0
          ++ [0x63, 0x82, 0x53, 0x63] ++ [53, 1, 1]
          ++ ([55, BitVec.ofNat 8 Config.chip.dhcpPrl.length] ++ Config.chip.dhcpPrl) ++ [255]
      ∧ m.length = 246 + Config.chip.dhcpPrl.length
      ∧ exec .dhcpDiscover s = exec (.udpSend 0xFFFFFFFF#32 68#16 67#16 m) s
      ∧ ∃ t, exec .dhcpDiscover s = .next t

/-- R265: DHCP.RX: the three drops in their order; else `own_ip` is written and the delivered options are applied in order. The
spec's decisions D8, D31. -/
def Obligations.DhcpReceive : Prop :=
  ∀ (b : Octets) (s : State),
    (b.length < 236 → exec (.udpRxDhcpClient b) s = .next { s with results := s.results ++ [.rx (some .malformedPacket)] })
      ∧ (236 ≤ b.length → macAt b 28 ≠ Config.chip.ownMac →
        exec (.udpRxDhcpClient b) s = .next { s with results := s.results ++ [.rx (some .dhcpNotForUs)] })
      ∧ (236 ≤ b.length → macAt b 28 = Config.chip.ownMac → be32 b 16 = 0 →
        exec (.udpRxDhcpClient b) s = .next { s with results := s.results ++ [.rx (some .dhcpNoAddress)] })
      ∧ (236 ≤ b.length → macAt b 28 = Config.chip.ownMac → be32 b 16 ≠ 0 →
        exec (.udpRxDhcpClient b) s = .next
          { (tlvWalk b 240).foldl applyOption { s with ownIp := be32 b 16 } with results := s.results ++ [.rx none] })

/-- R267: an accepted message leaves `netmask` and `gateway_ip` at the first four octets of the last option 1 and option 3 of at
least four octets, each at its old value where there is none, and writes nothing else but `own_ip`. The spec's decision D32. -/
def Obligations.DhcpLastOptionStands : Prop :=
  ∀ (b : Octets) (s : State), 236 ≤ b.length → macAt b 28 = Config.chip.ownMac → be32 b 16 ≠ 0 →
    exec (.udpRxDhcpClient b) s = .next { s with
      ownIp := be32 b 16
      netmask := ((((tlvWalk b 240).filter fun o => decide (o.1 = 1#8 ∧ 4 ≤ o.2.1)).getLast?).map fun o => be32 o.2.2 0).getD s.netmask
      gatewayIp :=
        ((((tlvWalk b 240).filter fun o => decide (o.1 = 3#8 ∧ 4 ≤ o.2.1)).getLast?).map fun o => be32 o.2.2 0).getD s.gatewayIp
      results := s.results ++ [.rx none] }

/-- R110, R267: the option arms one by one. The spec's decision D32; that the arms record no result is the model's choice (log 23). -/
def Obligations.DhcpOptionArms : Prop :=
  ∀ (c : Octet) (v : Octets) (s : State),
    exec .dhcpOptPad s = .next s ∧ exec .dhcpOptEnd s = .next s ∧ exec (.dhcpOptOther c v) s = .next s
      ∧ (4 ≤ v.length → exec (.dhcpOptSubnetMask v) s = .next { s with netmask := be32 v 0 })
      ∧ (v.length < 4 → exec (.dhcpOptSubnetMask v) s = .next s)
      ∧ (4 ≤ v.length → exec (.dhcpOptRouter v) s = .next { s with gatewayIp := be32 v 0 })
      ∧ (v.length < 4 → exec (.dhcpOptRouter v) s = .next s)

/-! ### The receive ring -/

/-- R32: `RingPush` stores as many octets as there is room for, at the offsets from `recv_end` on modulo the capacity; every other
offset and every other field keeps its value. The index arithmetic is the spec's decision D44. -/
def Obligations.RingPushStores : Prop :=
  ∀ (cfg : Config) (c : Conn) (data : Octets) (n : Nat), ConnOk cfg c → n = min data.length (cfg.rxbufCap - c.recvCount) →
    (ringPush cfg c data).1 = n
      ∧ (∀ i, i < n → Memory.read (ringPush cfg c data).2.recvBuf ((c.recvEnd + i) % cfg.rxbufCap) = octetAt data i)
      ∧ (∀ k, (∀ i, i < n → k ≠ (c.recvEnd + i) % cfg.rxbufCap) →
        Memory.read (ringPush cfg c data).2.recvBuf k = Memory.read c.recvBuf k)
      ∧ (ringPush cfg c data).2 = { c with
          recvBuf := (ringPush cfg c data).2.recvBuf
          recvEnd := (c.recvEnd + n) % cfg.rxbufCap
          recvCount := c.recvCount + n }

/-- R32: first in, first out. Pushing appends to the unread octets what fits; popping takes the oldest. The index arithmetic is the
spec's decision D44. -/
def Obligations.RingIsFifo : Prop :=
  ∀ (cfg : Config) (c : Conn), ConnOk cfg c →
    (∀ data : Octets, (ringPush cfg c data).2.unread cfg = c.unread cfg ++ data.take (cfg.rxbufCap - c.recvCount))
      ∧ ∀ maxlen : Nat, (ringPop cfg c maxlen).1 = (c.unread cfg).take maxlen
          ∧ (ringPop cfg c maxlen).2.unread cfg = (c.unread cfg).drop maxlen

/-! ### TCP: segments and connections -/

/-- R295, R30: `CreateConn` fails for a 4-tuple that is present or a full table; else it adds a record with the creation values,
field by field, and takes one handle and one `ISN` draw. The spec's decisions D6, D10, D14, D17; the order of the table and the
count of draws are the model's (log 4, 9). -/
def Obligations.CreateConnection : Prop :=
  ∀ (lip rip : Word32) (lport rport : Word16) (st : TcpState) (s : State) (c : Conn),
    (s.lookup lip rip lport rport ≠ none ∨ s.tableFull Config.chip = true → createConn Config.chip lip rip lport rport st s = none)
      ∧ (s.lookup lip rip lport rport = none → s.tableFull Config.chip = false →
        c = { handle := s.nextHandle, localIp := lip, remoteIp := rip, localPort := lport, remotePort := rport, state := st
              seqNumber := Config.chip.isn s.isnDraws, ackNumber := 0
              sendWindowStart := 0, sendWindowEnd := Config.chip.sendWindowInit
              recvWindowStart := 0, recvWindowEnd := Config.chip.tcpWindow.setWidth 32
              recvBuf := [], recvStart := 0, recvEnd := 0, recvCount := 0
              lastAckTime := 0, rto := Config.chip.rtoInit, retransmitCount := 0, synTimestamp := 0, synCookieEnabled := false } →
        createConn Config.chip lip rip lport rport st s = some (c, { s with
          nextHandle := s.nextHandle + 1
          isnDraws := s.isnDraws + 1
          connTable := s.connTable ++ [c] }))

/-- R299: what `EmitSeg` hands to IP.SEND: the header of R103 with its checksum over pseudo-header, header and data; and what it
adds to `seq_number`. The spec's decision D40; the pseudo-header is general knowledge (G5, log 19). -/
def Obligations.EmitSegment : Prop :=
  ∀ (c : Conn) (flags : Octet) (data : Octets) (s : State), data.length ≤ 65495 →
    (∃ ck : Word16,
        emitSeg Config.chip c flags data s = ipSend Config.chip c.remoteIp 6
            (put16 c.localPort ++ put16 c.remotePort ++ put32 c.seqNumber ++ put32 c.ackNumber ++ [0x50, flags]
              ++ put16 Config.chip.tcpWindow ++ put16 ck ++ [0, 0] ++ data) s
          ∧ ck = checksum (put32 s.ownIp ++ put32 c.remoteIp ++ [0, 6] ++ put16 (BitVec.ofNat 16 (20 + data.length))
              ++ (put16 c.localPort ++ put16 c.remotePort ++ put32 c.seqNumber ++ put32 c.ackNumber ++ [0x50, flags]
                ++ put16 Config.chip.tcpWindow ++ [0, 0] ++ [0, 0] ++ data)))
      ∧ c.countSegment flags data =
        { c with seqNumber := c.seqNumber + BitVec.ofNat 32 (data.length + (if flags &&& 0x03#8 ≠ 0 then 1 else 0)) }

/-! ### TCP: the receive arms -/

/-- R297: no record and no SYN: the drop `UnknownConnection`. A SYN: counted in its bucket; over the limit it is logged and dropped;
with the table full it is dropped; else a record is created in LISTEN, stamped, and answered with `SYN|ACK` in the same operation.
The bucket and the move on from LISTEN are the spec's decisions D13, D35. -/
def Obligations.NoConnectionArm : Prop :=
  ∀ (src : Word32) (seg : TcpSeg) (now start count : Nat) (s : State), s.lookupSegment src seg = none →
    (start, count) = (if now < s.synBucketStart ∨ Config.chip.ticksPerSecond ≤ now - s.synBucketStart then (now, 1)
      else (s.synBucketStart, s.synCount + 1)) →
    (seg.flags &&& 0x02#8 = 0 → instrOfSegment none src seg now = .tcpRxNoconnOther src seg)
      ∧ (seg.flags &&& 0x02#8 ≠ 0 → instrOfSegment none src seg now = .tcpRxNoconnSyn src seg now)
      ∧ exec (.tcpRxNoconnOther src seg) s = .next { s with results := s.results ++ [.rx (some .unknownConnection)] }
      ∧ (10 < count →
        exec (.tcpRxNoconnSyn src seg now) s = .next { s with
          synBucketStart := start
          synCount := count
          effects := s.effects ++ [.log .warn (.synFlood src seg.dstPort)]
          results := s.results ++ [.rx (some .synFloodThreshold)] })
      ∧ (count ≤ 10 → s.tableFull Config.chip = true →
        exec (.tcpRxNoconnSyn src seg now) s = .next { s with
          synBucketStart := start
          synCount := count
          results := s.results ++ [.rx (some .allocationFailure)] })
      ∧ (count ≤ 10 → s.tableFull Config.chip = false → (∀ d ∈ s.connTable, d.handle < s.nextHandle) →
        ∀ c : Conn,
          c = { newConn Config.chip s.nextHandle s.ownIp src seg.dstPort seg.srcPort .listen (Config.chip.isn s.isnDraws) with
            ackNumber := seg.seq + 1, synTimestamp := now } →
          exec (.tcpRxNoconnSyn src seg now) s = .next { emitSeg Config.chip c 0x12 [] s with
            synBucketStart := start
            synCount := count
            nextHandle := s.nextHandle + 1
            isnDraws := s.isnDraws + 1
            connTable := s.connTable ++ [{ c with seqNumber := c.seqNumber + 1, state := .synReceived }]
            results := s.results ++ [.rx none] })

/-- R301, R302 (what `ack_number` becomes is the spec's decision D37): a SYN in LISTEN, a `SYN|ACK` in SYN_SENT. -/
def Obligations.HandshakeArms : Prop :=
  ∀ (src : Word32) (seg : TcpSeg) (s : State) (c a : Conn), s.lookupSegment src seg = some c →
    a = { c with ackNumber := seg.seq + 1 } →
    (c.state = .listen →
        exec (.tcpRxListenSyn src seg) s = .next { emitSeg Config.chip a 0x12 [] s with
          connTable := s.connTable.map fun d =>
            if d.handle = c.handle then { a with seqNumber := c.seqNumber + 1, state := .synReceived } else d
          results := s.results ++ [.rx none] })
      ∧ (c.state = .synSent →
        exec (.tcpRxSynSentSynack src seg) s = .next { emitSeg Config.chip a 0x10 [] s with
          connTable := s.connTable.map fun d => if d.handle = c.handle then { a with state := .established } else d
          results := s.results ++ [.rx none] })

/-- R303, R306, R308: an ACK in SYN_RECEIVED, FIN_WAIT_1 and LAST_ACK: the ACK bit alone is tested, nothing is sent, and the record goes to
ESTABLISHED, to FIN_WAIT_2, or out of the table. That ACK is the bit 0x10 is general knowledge (G2, R104, log 19). -/
def Obligations.AckArms : Prop :=
  ∀ (src : Word32) (seg : TcpSeg) (now : Nat) (s : State) (c : Conn), s.lookupSegment src seg = some c →
    (c.state = .synReceived →
        (instrOfSegment (some c.state) src seg now = .tcpRxSynReceivedAck src seg ↔ seg.flags &&& 0x10#8 ≠ 0)
        ∧ exec (.tcpRxSynReceivedAck src seg) s = .next { s with
          connTable := s.connTable.map fun d => if d.handle = c.handle then { c with state := .established } else d
          results := s.results ++ [.rx none] })
      ∧ (c.state = .finWait1 →
        (instrOfSegment (some c.state) src seg now = .tcpRxFinWait1Ack src seg ↔ seg.flags &&& 0x10#8 ≠ 0)
        ∧ exec (.tcpRxFinWait1Ack src seg) s = .next { s with
          connTable := s.connTable.map fun d => if d.handle = c.handle then { c with state := .finWait2 } else d
          results := s.results ++ [.rx none] })
      ∧ (c.state = .lastAck →
        (instrOfSegment (some c.state) src seg now = .tcpRxLastAckAck src seg ↔ seg.flags &&& 0x10#8 ≠ 0)
        ∧ exec (.tcpRxLastAckAck src seg) s = .next { s with
          connTable := s.connTable.filter fun d => decide (d.handle ≠ c.handle)
          results := s.results ++ [.rx none] })

/-- R304, R305: data in ESTABLISHED: what fits is stored, the whole length is acknowledged with one ACK; with FIN set the FIN step
follows in the same operation: ACK, `FIN|ACK`, LAST_ACK. The spec's decisions D37, D38. -/
def Obligations.EstablishedData : Prop :=
  ∀ (src : Word32) (seg : TcpSeg) (s : State) (c a f : Conn), s.lookupSegment src seg = some c → c.state = .established →
    a = { (ringPush Config.chip c seg.data).2 with ackNumber := seg.seq + BitVec.ofNat 32 seg.data.length } →
    f = { a with ackNumber := seg.seq + BitVec.ofNat 32 (seg.data.length + 1) } →
    (seg.flags &&& 0x01#8 = 0 →
        exec (.tcpRxEstablishedData src seg) s = .next { emitSeg Config.chip a 0x10 [] s with
          connTable := s.connTable.map fun d => if d.handle = c.handle then a else d
          results := s.results ++ [.rx none] })
      ∧ (seg.flags &&& 0x01#8 ≠ 0 →
        exec (.tcpRxEstablishedData src seg) s = .next
          { emitSeg Config.chip f 0x11 [] (emitSeg Config.chip f 0x10 [] (emitSeg Config.chip a 0x10 [] s)) with
            connTable := s.connTable.map fun d =>
              if d.handle = c.handle then { f with seqNumber := c.seqNumber + 1, state := .lastAck } else d
            results := s.results ++ [.rx none] })

/-- R305, R307, R309, R310 (the spec's decisions D37, D38, D39, D8): a FIN in ESTABLISHED without data (ACK, then `FIN|ACK`), a FIN in
FIN_WAIT_2, any segment in TIME_WAIT, and no action. -/
def Obligations.ClosingArms : Prop :=
  ∀ (src : Word32) (seg : TcpSeg) (s : State) (c a : Conn), s.lookupSegment src seg = some c →
    a = { c with ackNumber := seg.seq + BitVec.ofNat 32 (seg.data.length + 1) } →
    (c.state = .established →
        exec (.tcpRxEstablishedFin src seg) s = .next { emitSeg Config.chip a 0x11 [] (emitSeg Config.chip a 0x10 [] s) with
          connTable := s.connTable.map fun d =>
            if d.handle = c.handle then { a with seqNumber := c.seqNumber + 1, state := .lastAck } else d
          results := s.results ++ [.rx none] })
      ∧ (c.state = .finWait2 →
        exec (.tcpRxFinWait2Fin src seg) s = .next { emitSeg Config.chip a 0x10 [] s with
          connTable := s.connTable.map fun d => if d.handle = c.handle then { a with state := .timeWait } else d
          results := s.results ++ [.rx none] })
      ∧ (c.state = .timeWait →
        exec (.tcpRxTimeWaitAny src seg) s = .next { s with
          connTable := s.connTable.filter fun d => decide (d.handle ≠ c.handle)
          results := s.results ++ [.rx none] })
      ∧ exec (.tcpRxNoAction c.state src seg) s = .next { s with results := s.results ++ [.rx (some .tcpNoAction)] }

/-- R107, R298, R310: which arm a segment selects in each state, the whole table, the fall-back of R310 included. The spec's
decision D36. -/
def Obligations.StateArmSelection : Prop :=
  ∀ (st : TcpState) (src : Word32) (seg : TcpSeg) (now : Nat),
    ((∃ f, instrOfSegment (some st) src seg now = .tcpRxNoAction f src seg) ↔
        st = .closed ∨ st = .closeWait ∨ st = .closing ∨ (st = .listen ∧ seg.flags &&& 0x02#8 = 0)
          ∨ (st = .synSent ∧ seg.flags &&& 0x12#8 ≠ 0x12#8) ∨ (st = .synReceived ∧ seg.flags &&& 0x10#8 = 0)
          ∨ (st = .established ∧ seg.data = [] ∧ seg.flags &&& 0x01#8 = 0) ∨ (st = .finWait1 ∧ seg.flags &&& 0x10#8 = 0)
          ∨ (st = .finWait2 ∧ seg.flags &&& 0x01#8 = 0) ∨ (st = .lastAck ∧ seg.flags &&& 0x10#8 = 0))
      ∧ (instrOfSegment none src seg now = .tcpRxNoconnSyn src seg now ↔ seg.flags &&& 0x02#8 ≠ 0)
      ∧ (instrOfSegment none src seg now = .tcpRxNoconnOther src seg ↔ seg.flags &&& 0x02#8 = 0)
      ∧ (instrOfSegment (some st) src seg now = .tcpRxListenSyn src seg ↔ st = .listen ∧ seg.flags &&& 0x02#8 ≠ 0)
      ∧ (instrOfSegment (some st) src seg now = .tcpRxSynSentSynack src seg ↔ st = .synSent ∧ seg.flags &&& 0x12#8 = 0x12#8)
      ∧ (instrOfSegment (some st) src seg now = .tcpRxSynReceivedAck src seg ↔ st = .synReceived ∧ seg.flags &&& 0x10#8 ≠ 0)
      ∧ (instrOfSegment (some st) src seg now = .tcpRxFinWait1Ack src seg ↔ st = .finWait1 ∧ seg.flags &&& 0x10#8 ≠ 0)
      ∧ (instrOfSegment (some st) src seg now = .tcpRxFinWait2Fin src seg ↔ st = .finWait2 ∧ seg.flags &&& 0x01#8 ≠ 0)
      ∧ (instrOfSegment (some st) src seg now = .tcpRxLastAckAck src seg ↔ st = .lastAck ∧ seg.flags &&& 0x10#8 ≠ 0)
      ∧ (instrOfSegment (some st) src seg now = .tcpRxTimeWaitAny src seg ↔ st = .timeWait)
      ∧ (instrOfSegment (some st) src seg now = .tcpRxEstablishedData src seg ↔ st = .established ∧ seg.data ≠ [])
      ∧ (instrOfSegment (some st) src seg now = .tcpRxEstablishedFin src seg ↔
        st = .established ∧ seg.data = [] ∧ seg.flags &&& 0x01#8 ≠ 0)

/-- R311, R104: fields and flags that never matter: the acknowledgment number, the window, and every flag bit but FIN, SYN and ACK.
The spec's decision D36; the flag bits are general knowledge (G2, log 19). -/
def Obligations.IgnoredSegmentFields : Prop :=
  ∀ (src : Word32) (seg seg' : TcpSeg) (now : Nat) (s : State),
    seg.srcPort = seg'.srcPort → seg.dstPort = seg'.dstPort → seg.seq = seg'.seq → seg.data = seg'.data →
    seg.flags &&& 0x13#8 = seg'.flags &&& 0x13#8 →
    exec (instrOfSegment ((s.lookupSegment src seg).map fun c => c.state) src seg now) s
      = exec (instrOfSegment ((s.lookupSegment src seg').map fun c => c.state) src seg' now) s

/-! ### TCP: the commands -/

/-- R342: TCP.LISTEN creates a record bound to `(own_ip, 0, port, 0)`; a bound port or a full table gives -1 and no change. The
spec's decision D43. -/
def Obligations.TcpListen : Prop :=
  ∀ (port : Word16) (s : State),
    (s.lookup s.ownIp 0 port 0 = none → s.tableFull Config.chip = false →
        exec (.tcpListen port) s = .next { s with
          nextHandle := s.nextHandle + 1
          isnDraws := s.isnDraws + 1
          connTable := s.connTable ++ [newConn Config.chip s.nextHandle s.ownIp 0 port 0 .listen (Config.chip.isn s.isnDraws)]
          results := s.results ++ [.ret (.handle s.nextHandle)] })
      ∧ (s.lookup s.ownIp 0 port 0 ≠ none ∨ s.tableFull Config.chip = true →
        exec (.tcpListen port) s = .next { s with results := s.results ++ [.ret .failure] })

/-- R343: TCP.ACCEPT is a pure query of an ESTABLISHED record. The spec's decision D46. -/
def Obligations.TcpAccept : Prop :=
  ∀ (h : Int) (s : State),
    (∀ c, s.byHandle h = some c → c.state = .established →
        exec (.tcpAccept h) s = .next { s with results := s.results ++ [.ret (.accepted c.handle c.remoteIp c.remotePort)] })
      ∧ ((∀ c, s.byHandle h = some c → c.state ≠ .established) →
        exec (.tcpAccept h) s = .next { s with results := s.results ++ [.ret .failure] })

/-- R346: TCP.SEND sends the data cut to the usable window in one `PSH|ACK` segment and counts it; with nothing to send it returns
0; a record that is not ESTABLISHED gives -1. More than one segment holds (R222: refused) is sendable only outside the invariant of
R33. The spec's decisions D15, D41. -/
def Obligations.TcpSend : Prop :=
  ∀ (h : Int) (data : Octets) (s : State),
    (∀ (c : Conn) (n : Nat), s.byHandle h = some c → c.state = .established →
        n = min data.length (c.sendWindowEnd - c.sendWindowStart) →
        (0 < n → n ≤ 65495 →
          exec (.tcpSend h data) s = .next { emitSeg Config.chip c 0x18 (data.take n) s with
            connTable := s.connTable.map fun d =>
              if d.handle = c.handle then
                { c with seqNumber := c.seqNumber + BitVec.ofNat 32 n, sendWindowStart := c.sendWindowStart + n }
              else d
            results := s.results ++ [.ret (.count n)] })
        ∧ (n = 0 → exec (.tcpSend h data) s = .next { s with results := s.results ++ [.ret (.count 0)] })
        ∧ (65495 < n → exec (.tcpSend h data) s = .refused .payloadTooLong))
      ∧ ((∀ c, s.byHandle h = some c → c.state ≠ .established) →
        exec (.tcpSend h data) s = .next { s with results := s.results ++ [.ret .failure] })

/-- R347: TCP.RECV returns the oldest unread octets and frees them; a record that is not ESTABLISHED gives -1. The spec's decision
D44. -/
def Obligations.TcpRecv : Prop :=
  ∀ (h : Int) (maxlen : Nat) (s : State),
    (∀ (c : Conn) (n : Nat), s.byHandle h = some c → c.state = .established → c.recvStart < Config.chip.rxbufCap →
        n = min maxlen c.recvCount →
        exec (.tcpRecv h maxlen) s = .next { s with
          connTable := s.connTable.map fun d =>
            if d.handle = c.handle then
              { c with recvStart := (c.recvStart + n) % Config.chip.rxbufCap, recvCount := c.recvCount - n }
            else d
          results := s.results ++ [.ret (.received n
            ((List.range n).map fun i => Memory.read c.recvBuf ((c.recvStart + i) % Config.chip.rxbufCap)))] })
      ∧ ((∀ c, s.byHandle h = some c → c.state ≠ .established) →
        exec (.tcpRecv h maxlen) s = .next { s with results := s.results ++ [.ret .failure] })

/-- R348: TCP.CLOSE sends `FIN|ACK` and goes to FIN_WAIT_1 from ESTABLISHED; in any other state it removes the record and sends nothing;
a stale handle does nothing. That is the spec's decision D10 (R341); that a negative handle names nothing is log 17 (DEDUCED). -/
def Obligations.TcpClose : Prop :=
  ∀ (h : Int) (s : State),
    (∀ c, s.byHandle h = some c → c.state = .established →
        exec (.tcpClose h) s = .next { emitSeg Config.chip c 0x11 [] s with
          connTable := s.connTable.map fun d =>
            if d.handle = c.handle then { c with seqNumber := c.seqNumber + 1, state := .finWait1 } else d
          results := s.results ++ [.ret .nothing] })
      ∧ (∀ c, s.byHandle h = some c → c.state ≠ .established →
        exec (.tcpClose h) s = .next { s with
          connTable := s.connTable.filter fun d => decide (d.handle ≠ c.handle)
          results := s.results ++ [.ret .nothing] })
      ∧ (s.byHandle h = none → exec (.tcpClose h) s = .next { s with results := s.results ++ [.ret .nothing] })

/-- R350: TCP.CONNECT takes the ephemeral port in any case; it creates the record, sends the SYN and leaves the record ESTABLISHED;
a used 4-tuple or a full table gives -1. The spec's decisions D42, D43, D45. -/
def Obligations.TcpConnect : Prop :=
  ∀ (ip : Word32) (port : Word16) (s : State),
    (s.lookup s.ownIp ip s.nextEphemeral port = none → s.tableFull Config.chip = false →
        (∀ d ∈ s.connTable, d.handle < s.nextHandle) →
        ∀ c : Conn,
          c = newConn Config.chip s.nextHandle s.ownIp ip s.nextEphemeral port .synSent (Config.chip.isn s.isnDraws) →
          exec (.tcpConnect ip port) s = .next { emitSeg Config.chip c 0x02 [] s with
            nextEphemeral := s.nextEphemeral + 1
            nextHandle := s.nextHandle + 1
            isnDraws := s.isnDraws + 1
            connTable := s.connTable ++ [{ c with seqNumber := c.seqNumber + 1, state := .established }]
            results := s.results ++ [.ret (.handle s.nextHandle)] })
      ∧ (s.lookup s.ownIp ip s.nextEphemeral port ≠ none ∨ s.tableFull Config.chip = true →
        exec (.tcpConnect ip port) s = .next { s with
          nextEphemeral := s.nextEphemeral + 1
          results := s.results ++ [.ret .failure] })

/-! ### The whole machine -/

/-- R35, R38: the reset state keeps the invariants and has every record in a legal state. The invariants are the source's with the
spec's inferences (R35), and the canonical form is the model's (log 8). -/
def Obligations.ResetKeepsInvariants : Prop := State.reset.Inv Config.chip ∧ State.reset.LegalStates

/-- R35, R402: no event leaves the state outside the invariants, from any state inside them. The invariants are the source's with
the spec's inferences (R35), and the canonical form is the model's (log 8). -/
def Obligations.StepKeepsInvariants : Prop :=
  ∀ s t : State, s.Inv Config.chip → step s = .next t → t.Inv Config.chip

/-- R352, R31: no event leaves a record in CLOSED, SYN_SENT, CLOSE_WAIT or CLOSING. The spec's inference (R352). -/
def Obligations.StepKeepsLegalStates : Prop := ∀ s t : State, s.LegalStates → step s = .next t → t.LegalStates

/-- R39: the access summary: which instructions can write each register. The spec's inference (R39). -/
def Obligations.OnlyListedWriters : Prop :=
  ∀ (i : Instr) (s t : State), exec i s = .next t →
    (t.ownIp = s.ownIp ∨ canRunDhcp i ∨ ∃ v, i = .ipSetIp v)
      ∧ (t.gatewayIp = s.gatewayIp ∨ canRunDhcp i ∨ (∃ v, i = .dhcpOptRouter v) ∨ ∃ v, i = .ipSetGateway v)
      ∧ (t.netmask = s.netmask ∨ canRunDhcp i ∨ (∃ v, i = .dhcpOptSubnetMask v) ∨ ∃ v, i = .ipSetNetmask v)
      ∧ (t.arpCache = s.arpCache ∨ canRunArp i)
      ∧ (t.nextEphemeral = s.nextEphemeral ∨ ∃ ip port, i = .tcpConnect ip port)
      ∧ ((t.synCount = s.synCount ∧ t.synBucketStart = s.synBucketStart) ∨ canCountSyn i)
      ∧ (t.nextHandle = s.nextHandle ∨ canCountSyn i ∨ (∃ port, i = .tcpListen port) ∨ ∃ ip port, i = .tcpConnect ip port)

/-- R30, R33, R34, R351: what no instruction changes in a record after its creation, and that the send window only closes. The
spec's inference (R34, R351) from its decisions D15, D16. -/
def Obligations.RecordIdentityConstant : Prop :=
  ∀ (i : Instr) (s t : State), s.Inv Config.chip → exec i s = .next t →
    ∀ c ∈ s.connTable, ∀ d ∈ t.connTable, d.handle = c.handle →
      d.localIp = c.localIp ∧ d.remoteIp = c.remoteIp ∧ d.localPort = c.localPort ∧ d.remotePort = c.remotePort
        ∧ d.sendWindowEnd = c.sendWindowEnd ∧ c.sendWindowStart ≤ d.sendWindowStart
        ∧ d.recvWindowStart = c.recvWindowStart ∧ d.recvWindowEnd = c.recvWindowEnd ∧ d.lastAckTime = c.lastAckTime
        ∧ d.rto = c.rto ∧ d.retransmitCount = c.retransmitCount ∧ d.synTimestamp = c.synTimestamp
        ∧ d.synCookieEnabled = c.synCookieEnabled

/-- R28: handles are given out in order and never reused: a record's handle is an old record's or `next_handle`, which then steps
on. The spec's decision D10. -/
def Obligations.HandlesNeverReused : Prop :=
  ∀ (i : Instr) (s t : State), exec i s = .next t →
    s.nextHandle ≤ t.nextHandle
      ∧ ∀ d ∈ t.connTable, (∃ c ∈ s.connTable, c.handle = d.handle) ∨ (d.handle = s.nextHandle ∧ t.nextHandle = s.nextHandle + 1)

/-- R352: a record is removed only by a TCP.CLOSE of it outside ESTABLISHED, or by its own segment's arm in LAST_ACK or TIME_WAIT; a record
is ESTABLISHED only because it was, because TCP.CONNECT made it, or by an ACK in SYN_RECEIVED (or the arm of SYN_SENT, which no event
finds); a new record has the next handle and is in LISTEN, ESTABLISHED or SYN_RECEIVED by what made it. The spec's inference (R352); the
arms as instructions are the model's choice (log 10). -/
def Obligations.RecordLifecycle : Prop :=
  ∀ (i : Instr) (s t : State), s.Inv Config.chip → exec i s = .next t →
    (∀ c ∈ s.connTable, (∀ d ∈ t.connTable, d.handle ≠ c.handle) →
        (i = .tcpClose c.handle ∧ c.state ≠ .established)
          ∨ ∃ src seg, s.lookupSegment src seg = some c ∧
            ((c.state = .lastAck ∧ runsArm s i (.tcpRxLastAckAck src seg))
              ∨ (c.state = .timeWait ∧ runsArm s i (.tcpRxTimeWaitAny src seg))))
      ∧ (∀ d ∈ t.connTable, d.state = .established →
        (d.handle = s.nextHandle ∧ ∃ ip port, i = .tcpConnect ip port)
          ∨ ∃ c ∈ s.connTable, c.handle = d.handle ∧
            (c.state = .established
              ∨ ∃ src seg, s.lookupSegment src seg = some c ∧
                ((c.state = .synReceived ∧ runsArm s i (.tcpRxSynReceivedAck src seg))
                  ∨ (c.state = .synSent ∧ runsArm s i (.tcpRxSynSentSynack src seg)))))
      ∧ ∀ d ∈ t.connTable, (∀ c ∈ s.connTable, c.handle ≠ d.handle) →
        d.handle = s.nextHandle
          ∧ ((d.state = .listen ∧ ∃ port, i = .tcpListen port) ∨ (d.state = .established ∧ ∃ ip port, i = .tcpConnect ip port)
            ∨ (d.state = .synReceived ∧ ∃ src seg now, s.lookupSegment src seg = none ∧ runsArm s i (.tcpRxNoconnSyn src seg now)))
end

