-- ==== Sys2Proof/Laws/Memory.lean ====
section
/-! SUPPORT. The laws of octet storage: read after write, the canonical form kept. -/

namespace Sys2Proof.Machine

/-- Nothing listed reads as 0 everywhere. -/
@[simp] theorem Memory.read_nil (a : Nat) : Memory.read [] a = 0#8 := rfl

/-- The empty storage is in canonical form. -/
theorem Memory.wf_nil : Memory.wf [] := ⟨List.Pairwise.nil, by simp⟩

/-- An address below every listed one reads as 0. -/
theorem Memory.read_eq_zero_of_lt {m : Memory} {a : Nat} (h : ∀ x ∈ m, a < x.1) : Memory.read m a = 0#8 := by
  induction m with
  | nil => rfl
  | cons x m ih =>
    obtain ⟨b, v⟩ := x
    have hb : a < b := h (b, v) (by simp)
    simp only [Memory.read]
    rw [if_neg (by omega)]
    exact ih fun y hy => h y (by simp [hy])

/-- What a write leaves at each address: the octet written at its own address, the old octet at any other. -/
theorem Memory.read_write (m : Memory) (hm : Memory.wf m) (a : Nat) (v : Octet) (k : Nat) :
    Memory.read (Memory.write m a v) k = if k = a then v else Memory.read m k := by
  induction m with
  | nil =>
    simp only [Memory.write]
    split <;> split <;> simp_all [Memory.read]
    omega
  | cons x m ih =>
    obtain ⟨b, w⟩ := x
    obtain ⟨hp, hz⟩ := hm
    obtain ⟨hb, hp'⟩ := List.pairwise_cons.mp hp
    have hm' : Memory.wf m := ⟨hp', fun y hy => hz y (by simp [hy])⟩
    have habove : ∀ c, c ≤ b → Memory.read m c = 0#8 := fun c hc =>
      Memory.read_eq_zero_of_lt fun y hy => Nat.lt_of_le_of_lt hc (hb y hy)
    simp only [Memory.write]
    by_cases h1 : a < b
    · rw [if_pos h1]
      by_cases hv : v = 0#8
      · rw [if_pos hv]
        by_cases hk : k = a
        · subst hk
          simp only [Memory.read, if_true]
          rw [if_neg (by omega), habove k (by omega), hv]
        · rw [if_neg hk]
      · rw [if_neg hv]
        by_cases hk : k = a
        · subst hk; simp [Memory.read]
        · simp only [Memory.read]
          rw [if_neg hk, if_neg (fun h => hk h.symm)]
    · rw [if_neg h1]
      by_cases h2 : a = b
      · rw [if_pos h2]
        subst h2
        by_cases hv : v = 0#8
        · rw [if_pos hv]
          by_cases hk : k = a
          · subst hk; rw [if_pos rfl, habove k (Nat.le_refl k), hv]
          · simp only [Memory.read]; rw [if_neg hk, if_neg (fun h => hk h.symm)]
        · rw [if_neg hv]
          by_cases hk : k = a
          · subst hk; simp [Memory.read]
          · simp only [Memory.read]; rw [if_neg hk, if_neg (fun h => hk h.symm), if_neg (fun h => hk h.symm)]
      · rw [if_neg h2]
        simp only [Memory.read]
        by_cases hkb : b = k
        · rw [if_pos hkb, if_neg (by omega), if_pos hkb]
        · rw [if_neg hkb, if_neg hkb]
          exact ih hm'

/-- Every entry a write leaves is an old entry or the octet written. -/
theorem Memory.mem_write {m : Memory} {a : Nat} {v : Octet} {x : Host.Cell} (h : x ∈ Memory.write m a v) :
    x ∈ m ∨ (x = (a, v) ∧ v ≠ 0#8) := by
  induction m with
  | nil =>
    simp only [Memory.write] at h
    split at h <;> simp_all
  | cons y m ih =>
    obtain ⟨b, w⟩ := y
    simp only [Memory.write] at h
    split at h
    · split at h <;> simp_all
      tauto
    · split at h
      · split at h <;> simp_all
        tauto
      · rcases List.mem_cons.mp h with rfl | h
        · exact .inl (by simp)
        · rcases ih h with h | h
          · exact .inl (by simp [h])
          · exact .inr h

/-- A write keeps the canonical form. -/
theorem Memory.wf_write {m : Memory} (hm : Memory.wf m) (a : Nat) (v : Octet) : Memory.wf (Memory.write m a v) := by
  refine ⟨?_, fun x hx => ?_⟩
  · induction m with
    | nil => simp only [Memory.write]; split <;> simp
    | cons x m ih =>
      obtain ⟨b, w⟩ := x
      obtain ⟨hp, hz⟩ := hm
      obtain ⟨hb, hp'⟩ := List.pairwise_cons.mp hp
      have hm' : Memory.wf m := ⟨hp', fun y hy => hz y (by simp [hy])⟩
      simp only [Memory.write]
      split
      · split
        · exact hp
        · refine List.pairwise_cons.mpr ⟨fun y hy => ?_, hp⟩
          rcases List.mem_cons.mp hy with rfl | hy
          · assumption
          · exact Nat.lt_trans ‹a < b› (hb y hy)
      · split
        · rename_i h2
          subst h2
          split
          · exact hp'
          · exact List.pairwise_cons.mpr ⟨hb, hp'⟩
        · refine List.pairwise_cons.mpr ⟨fun y hy => ?_, ih hm'⟩
          rcases Memory.mem_write hy with hy | ⟨rfl, -⟩
          · exact hb y hy
          · show b < a
            omega
  · rcases Memory.mem_write hx with hx | ⟨rfl, hv⟩
    · exact hm.2 x hx
    · exact hv

/-- A record in a canonical storage reads as its own octet. -/
theorem Memory.read_of_mem {m : Memory} (hm : Memory.wf m) {x : Host.Cell} (hx : x ∈ m) : Memory.read m x.1 = x.2 := by
  induction m with
  | nil => simp at hx
  | cons y m ih =>
    obtain ⟨hp, hz⟩ := hm
    obtain ⟨hb, hp'⟩ := List.pairwise_cons.mp hp
    rcases List.mem_cons.mp hx with rfl | hx
    · simp [Memory.read]
    · have := hb x hx
      simp only [Memory.read]
      rw [if_neg (by omega)]
      exact ih ⟨hp', fun z hz' => hz z (by simp [hz'])⟩ hx

end Sys2Proof.Machine
end

