-- ==== Sys2Proof/Laws/Ring.lean ====
section
/-! SUPPORT. What the receive ring's procedures do, said once each (spec/10_state.md R32): indices in closed form, what the store loop
leaves at each offset, what it leaves of the record. -/

namespace Sys2Proof.Machine

/-- Stepping an index inside the capacity `n` times. -/
theorem ringAdvance_eq (cap : Nat) (n start : Nat) (h : start < cap) : ringAdvance cap n start = (start + n) % cap := by
  induction n generalizing start with
  | zero => simp [ringAdvance, Nat.mod_eq_of_lt h]
  | succ n ih =>
    have hc : 0 < cap := Nat.lt_of_le_of_lt (Nat.zero_le _) h
    rw [ringAdvance, ih _ (Nat.mod_lt _ hc), Nat.mod_add_mod]
    congr 1; omega

/-- The read loop in closed form. -/
theorem ringRead_eq (cap : Nat) (m : Memory) (n start : Nat) (h : start < cap) :
    ringRead cap m n start = (List.range n).map fun i => Memory.read m ((start + i) % cap) := by
  induction n generalizing start with
  | zero => rfl
  | succ n ih =>
    have hc : 0 < cap := Nat.lt_of_le_of_lt (Nat.zero_le _) h
    rw [ringRead, ih _ (Nat.mod_lt _ hc), List.range_succ_eq_map, List.map_cons, List.map_map]
    congr 1
    · simp [Nat.mod_eq_of_lt h]
    · refine List.map_congr_left fun i _ => ?_
      simp only [Function.comp_apply, Nat.mod_add_mod]
      congr 2; omega

@[simp] theorem length_ringRead (cap : Nat) (m : Memory) (n start : Nat) : (ringRead cap m n start).length = n := by
  induction n generalizing start with
  | zero => rfl
  | succ n ih => simp [ringRead, ih]

/-- The store loop writes the ring's octets and `recv_end` alone. -/
theorem ringStore_frame (cap : Nat) (d : Octets) (c : Conn) :
    ringStore cap d c = { c with recvBuf := (ringStore cap d c).recvBuf, recvEnd := (ringStore cap d c).recvEnd } := by
  induction d generalizing c with
  | nil => rfl
  | cons o d ih =>
    rw [ringStore]
    exact (ih _).trans rfl

/-- `recv_end` after the store loop. -/
theorem ringStore_recvEnd (cap : Nat) (d : Octets) (c : Conn) (h : c.recvEnd < cap) :
    (ringStore cap d c).recvEnd = (c.recvEnd + d.length) % cap := by
  induction d generalizing c with
  | nil => simp [ringStore, Nat.mod_eq_of_lt h]
  | cons o d ih =>
    have hc : 0 < cap := Nat.lt_of_le_of_lt (Nat.zero_le _) h
    rw [ringStore, ih _ (Nat.mod_lt _ hc)]
    simp only [Nat.mod_add_mod, List.length_cons]
    congr 1; omega

/-- The store loop keeps the canonical form. -/
theorem ringStore_wf (cap : Nat) (d : Octets) (c : Conn) (h : Memory.wf c.recvBuf) : Memory.wf (ringStore cap d c).recvBuf := by
  induction d generalizing c with
  | nil => exact h
  | cons o d ih => exact ih _ (Memory.wf_write h _ _)

/-- The store loop stores inside the ring only. -/
theorem ringStore_inside (cap : Nat) (d : Octets) (c : Conn) (hc : c.recvEnd < cap) (h : ∀ x ∈ c.recvBuf, x.1 < cap) :
    ∀ x ∈ (ringStore cap d c).recvBuf, x.1 < cap := by
  induction d generalizing c with
  | nil => exact h
  | cons o d ih =>
    refine ih _ (Nat.mod_lt _ (Nat.lt_of_le_of_lt (Nat.zero_le _) hc)) fun x hx => ?_
    rcases Memory.mem_write hx with hx | ⟨rfl, -⟩
    · exact h x hx
    · exact hc

/-- An offset that the store loop does not reach keeps its octet. -/
theorem ringStore_read_other (cap : Nat) (d : Octets) (c : Conn) (hw : Memory.wf c.recvBuf) (k : Nat)
    (hk : ∀ i < d.length, k ≠ (c.recvEnd + i) % cap) (hc : c.recvEnd < cap) :
    Memory.read (ringStore cap d c).recvBuf k = Memory.read c.recvBuf k := by
  induction d generalizing c with
  | nil => rfl
  | cons o d ih =>
    rw [ringStore, ih _ (Memory.wf_write hw _ _)]
    · have h0 := hk 0 (by simp)
      rw [Nat.add_zero, Nat.mod_eq_of_lt hc] at h0
      rw [Memory.read_write _ hw, if_neg h0]
    · intro i hi
      have := hk (i + 1) (by simpa using hi)
      simp only [Nat.mod_add_mod]
      rwa [Nat.add_assoc, Nat.add_comm 1 i]
    · exact Nat.mod_lt _ (Nat.lt_of_le_of_lt (Nat.zero_le _) hc)

/-- The octet stored at each offset that the store loop reaches. -/
theorem ringStore_read_stored (cap : Nat) (d : Octets) (c : Conn) (hw : Memory.wf c.recvBuf) (hc : c.recvEnd < cap)
    (hd : d.length ≤ cap) (i : Nat) (hi : i < d.length) :
    Memory.read (ringStore cap d c).recvBuf ((c.recvEnd + i) % cap) = d[i] := by
  induction d generalizing c i with
  | nil => simp at hi
  | cons o d ih =>
    have hpos : 0 < cap := Nat.lt_of_le_of_lt (Nat.zero_le _) hc
    simp only [List.length_cons] at hi hd
    rw [ringStore]
    cases i with
    | zero =>
      rw [ringStore_read_other cap d _ (Memory.wf_write hw _ _) _ _ (Nat.mod_lt _ hpos)]
      · simp only [Nat.add_zero, Nat.mod_eq_of_lt hc, Memory.read_write _ hw, if_true, List.getElem_cons_zero]
      · intro j hj
        simp only [Nat.add_zero, Nat.mod_add_mod]
        intro he
        have h1 : c.recvEnd + 1 + j = c.recvEnd + (j + 1) := by omega
        rw [h1, Nat.mod_eq_of_lt hc] at he
        rcases Nat.lt_or_ge (c.recvEnd + (j + 1)) cap with h2 | h2
        · rw [Nat.mod_eq_of_lt h2] at he; omega
        · rw [Nat.mod_eq_sub_mod h2, Nat.mod_eq_of_lt (by omega)] at he; omega
    | succ i =>
      have := ih { c with recvBuf := Memory.write c.recvBuf c.recvEnd o, recvEnd := (c.recvEnd + 1) % cap }
        (Memory.wf_write hw _ _) (Nat.mod_lt _ hpos) (by omega) i (by omega)
      simp only [Nat.mod_add_mod] at this
      rw [List.getElem_cons_succ, ← this]
      congr 2; omega

/-- `RingPush` writes the ring's octets, `recv_end` and `recv_count` alone (R32). -/
theorem ringPush_frame (cfg : Config) (c : Conn) (d : Octets) :
    (ringPush cfg c d).2 =
      { c with
        recvBuf := (ringPush cfg c d).2.recvBuf
        recvEnd := (ringPush cfg c d).2.recvEnd
        recvCount := c.recvCount + min d.length (cfg.rxbufCap - c.recvCount) } := by
  simp only [ringPush]
  rw [ringStore_frame]

/-- `RingPop` writes `recv_start` and `recv_count` alone (R32). -/
theorem ringPop_frame (cfg : Config) (c : Conn) (n : Nat) :
    (ringPop cfg c n).2 =
      { c with
        recvStart := (ringPop cfg c n).2.recvStart
        recvCount := c.recvCount - min n c.recvCount } := rfl

end Sys2Proof.Machine
end

