-- ==== Sys2Proof/Laws/State.lean ====
section
/-! SUPPORT. What each update of the state and of a record does to each field: true by definition, so that no later proof unfolds
an update. -/

namespace Sys2Proof.Machine

@[simp] theorem State.emit_ownIp (s : State) (e : Effect) : (s.emit e).ownIp = s.ownIp := rfl
@[simp] theorem State.emit_gatewayIp (s : State) (e : Effect) : (s.emit e).gatewayIp = s.gatewayIp := rfl
@[simp] theorem State.emit_netmask (s : State) (e : Effect) : (s.emit e).netmask = s.netmask := rfl
@[simp] theorem State.emit_arpCache (s : State) (e : Effect) : (s.emit e).arpCache = s.arpCache := rfl
@[simp] theorem State.emit_nextEphemeral (s : State) (e : Effect) : (s.emit e).nextEphemeral = s.nextEphemeral := rfl
@[simp] theorem State.emit_synCount (s : State) (e : Effect) : (s.emit e).synCount = s.synCount := rfl
@[simp] theorem State.emit_synBucketStart (s : State) (e : Effect) : (s.emit e).synBucketStart = s.synBucketStart := rfl
@[simp] theorem State.emit_nextHandle (s : State) (e : Effect) : (s.emit e).nextHandle = s.nextHandle := rfl
@[simp] theorem State.emit_connTable (s : State) (e : Effect) : (s.emit e).connTable = s.connTable := rfl
@[simp] theorem State.emit_pending (s : State) (e : Effect) : (s.emit e).pending = s.pending := rfl
@[simp] theorem State.emit_effects (s : State) (e : Effect) : (s.emit e).effects = s.effects ++ [e] := rfl
@[simp] theorem State.emit_results (s : State) (e : Effect) : (s.emit e).results = s.results := rfl
@[simp] theorem State.emit_isnDraws (s : State) (e : Effect) : (s.emit e).isnDraws = s.isnDraws := rfl
@[simp] theorem State.emit_txDraws (s : State) (e : Effect) : (s.emit e).txDraws = s.txDraws := rfl

@[simp] theorem State.finish_ownIp (s : State) (r : Result) : (s.finish r).ownIp = s.ownIp := rfl
@[simp] theorem State.finish_gatewayIp (s : State) (r : Result) : (s.finish r).gatewayIp = s.gatewayIp := rfl
@[simp] theorem State.finish_netmask (s : State) (r : Result) : (s.finish r).netmask = s.netmask := rfl
@[simp] theorem State.finish_arpCache (s : State) (r : Result) : (s.finish r).arpCache = s.arpCache := rfl
@[simp] theorem State.finish_nextEphemeral (s : State) (r : Result) : (s.finish r).nextEphemeral = s.nextEphemeral := rfl
@[simp] theorem State.finish_synCount (s : State) (r : Result) : (s.finish r).synCount = s.synCount := rfl
@[simp] theorem State.finish_synBucketStart (s : State) (r : Result) : (s.finish r).synBucketStart = s.synBucketStart := rfl
@[simp] theorem State.finish_nextHandle (s : State) (r : Result) : (s.finish r).nextHandle = s.nextHandle := rfl
@[simp] theorem State.finish_connTable (s : State) (r : Result) : (s.finish r).connTable = s.connTable := rfl
@[simp] theorem State.finish_pending (s : State) (r : Result) : (s.finish r).pending = s.pending := rfl
@[simp] theorem State.finish_effects (s : State) (r : Result) : (s.finish r).effects = s.effects := rfl
@[simp] theorem State.finish_results (s : State) (r : Result) : (s.finish r).results = s.results ++ [r] := rfl
@[simp] theorem State.finish_isnDraws (s : State) (r : Result) : (s.finish r).isnDraws = s.isnDraws := rfl
@[simp] theorem State.finish_txDraws (s : State) (r : Result) : (s.finish r).txDraws = s.txDraws := rfl

@[simp] theorem State.raiseDrop_ownIp (s : State) (d : DropReason) : (s.raiseDrop d).ownIp = s.ownIp := rfl
@[simp] theorem State.raiseDrop_gatewayIp (s : State) (d : DropReason) : (s.raiseDrop d).gatewayIp = s.gatewayIp := rfl
@[simp] theorem State.raiseDrop_netmask (s : State) (d : DropReason) : (s.raiseDrop d).netmask = s.netmask := rfl
@[simp] theorem State.raiseDrop_arpCache (s : State) (d : DropReason) : (s.raiseDrop d).arpCache = s.arpCache := rfl
@[simp] theorem State.raiseDrop_nextEphemeral (s : State) (d : DropReason) : (s.raiseDrop d).nextEphemeral = s.nextEphemeral := rfl
@[simp] theorem State.raiseDrop_synCount (s : State) (d : DropReason) : (s.raiseDrop d).synCount = s.synCount := rfl
@[simp] theorem State.raiseDrop_synBucketStart (s : State) (d : DropReason) : (s.raiseDrop d).synBucketStart = s.synBucketStart := rfl
@[simp] theorem State.raiseDrop_nextHandle (s : State) (d : DropReason) : (s.raiseDrop d).nextHandle = s.nextHandle := rfl
@[simp] theorem State.raiseDrop_connTable (s : State) (d : DropReason) : (s.raiseDrop d).connTable = s.connTable := rfl
@[simp] theorem State.raiseDrop_pending (s : State) (d : DropReason) : (s.raiseDrop d).pending = s.pending := rfl
@[simp] theorem State.raiseDrop_effects (s : State) (d : DropReason) : (s.raiseDrop d).effects = s.effects := rfl
@[simp] theorem State.raiseDrop_results (s : State) (d : DropReason) : (s.raiseDrop d).results = s.results ++ [.rx (some d)] := rfl
@[simp] theorem State.raiseDrop_isnDraws (s : State) (d : DropReason) : (s.raiseDrop d).isnDraws = s.isnDraws := rfl
@[simp] theorem State.raiseDrop_txDraws (s : State) (d : DropReason) : (s.raiseDrop d).txDraws = s.txDraws := rfl

@[simp] theorem State.endRx_ownIp (s : State) : (s.endRx).ownIp = s.ownIp := rfl
@[simp] theorem State.endRx_gatewayIp (s : State) : (s.endRx).gatewayIp = s.gatewayIp := rfl
@[simp] theorem State.endRx_netmask (s : State) : (s.endRx).netmask = s.netmask := rfl
@[simp] theorem State.endRx_arpCache (s : State) : (s.endRx).arpCache = s.arpCache := rfl
@[simp] theorem State.endRx_nextEphemeral (s : State) : (s.endRx).nextEphemeral = s.nextEphemeral := rfl
@[simp] theorem State.endRx_synCount (s : State) : (s.endRx).synCount = s.synCount := rfl
@[simp] theorem State.endRx_synBucketStart (s : State) : (s.endRx).synBucketStart = s.synBucketStart := rfl
@[simp] theorem State.endRx_nextHandle (s : State) : (s.endRx).nextHandle = s.nextHandle := rfl
@[simp] theorem State.endRx_connTable (s : State) : (s.endRx).connTable = s.connTable := rfl
@[simp] theorem State.endRx_pending (s : State) : (s.endRx).pending = s.pending := rfl
@[simp] theorem State.endRx_effects (s : State) : (s.endRx).effects = s.effects := rfl
@[simp] theorem State.endRx_results (s : State) : (s.endRx).results = s.results ++ [.rx none] := rfl
@[simp] theorem State.endRx_isnDraws (s : State) : (s.endRx).isnDraws = s.isnDraws := rfl
@[simp] theorem State.endRx_txDraws (s : State) : (s.endRx).txDraws = s.txDraws := rfl

@[simp] theorem State.ret_ownIp (s : State) (v : RetVal) : (s.ret v).ownIp = s.ownIp := rfl
@[simp] theorem State.ret_gatewayIp (s : State) (v : RetVal) : (s.ret v).gatewayIp = s.gatewayIp := rfl
@[simp] theorem State.ret_netmask (s : State) (v : RetVal) : (s.ret v).netmask = s.netmask := rfl
@[simp] theorem State.ret_arpCache (s : State) (v : RetVal) : (s.ret v).arpCache = s.arpCache := rfl
@[simp] theorem State.ret_nextEphemeral (s : State) (v : RetVal) : (s.ret v).nextEphemeral = s.nextEphemeral := rfl
@[simp] theorem State.ret_synCount (s : State) (v : RetVal) : (s.ret v).synCount = s.synCount := rfl
@[simp] theorem State.ret_synBucketStart (s : State) (v : RetVal) : (s.ret v).synBucketStart = s.synBucketStart := rfl
@[simp] theorem State.ret_nextHandle (s : State) (v : RetVal) : (s.ret v).nextHandle = s.nextHandle := rfl
@[simp] theorem State.ret_connTable (s : State) (v : RetVal) : (s.ret v).connTable = s.connTable := rfl
@[simp] theorem State.ret_pending (s : State) (v : RetVal) : (s.ret v).pending = s.pending := rfl
@[simp] theorem State.ret_effects (s : State) (v : RetVal) : (s.ret v).effects = s.effects := rfl
@[simp] theorem State.ret_results (s : State) (v : RetVal) : (s.ret v).results = s.results ++ [.ret v] := rfl
@[simp] theorem State.ret_isnDraws (s : State) (v : RetVal) : (s.ret v).isnDraws = s.isnDraws := rfl
@[simp] theorem State.ret_txDraws (s : State) (v : RetVal) : (s.ret v).txDraws = s.txDraws := rfl

@[simp] theorem State.setOwnIp_ownIp (s : State) (v : Word32) : (s.setOwnIp v).ownIp = v := rfl
@[simp] theorem State.setOwnIp_gatewayIp (s : State) (v : Word32) : (s.setOwnIp v).gatewayIp = s.gatewayIp := rfl
@[simp] theorem State.setOwnIp_netmask (s : State) (v : Word32) : (s.setOwnIp v).netmask = s.netmask := rfl
@[simp] theorem State.setOwnIp_arpCache (s : State) (v : Word32) : (s.setOwnIp v).arpCache = s.arpCache := rfl
@[simp] theorem State.setOwnIp_nextEphemeral (s : State) (v : Word32) : (s.setOwnIp v).nextEphemeral = s.nextEphemeral := rfl
@[simp] theorem State.setOwnIp_synCount (s : State) (v : Word32) : (s.setOwnIp v).synCount = s.synCount := rfl
@[simp] theorem State.setOwnIp_synBucketStart (s : State) (v : Word32) : (s.setOwnIp v).synBucketStart = s.synBucketStart := rfl
@[simp] theorem State.setOwnIp_nextHandle (s : State) (v : Word32) : (s.setOwnIp v).nextHandle = s.nextHandle := rfl
@[simp] theorem State.setOwnIp_connTable (s : State) (v : Word32) : (s.setOwnIp v).connTable = s.connTable := rfl
@[simp] theorem State.setOwnIp_pending (s : State) (v : Word32) : (s.setOwnIp v).pending = s.pending := rfl
@[simp] theorem State.setOwnIp_effects (s : State) (v : Word32) : (s.setOwnIp v).effects = s.effects := rfl
@[simp] theorem State.setOwnIp_results (s : State) (v : Word32) : (s.setOwnIp v).results = s.results := rfl
@[simp] theorem State.setOwnIp_isnDraws (s : State) (v : Word32) : (s.setOwnIp v).isnDraws = s.isnDraws := rfl
@[simp] theorem State.setOwnIp_txDraws (s : State) (v : Word32) : (s.setOwnIp v).txDraws = s.txDraws := rfl

@[simp] theorem State.setGatewayIp_ownIp (s : State) (v : Word32) : (s.setGatewayIp v).ownIp = s.ownIp := rfl
@[simp] theorem State.setGatewayIp_gatewayIp (s : State) (v : Word32) : (s.setGatewayIp v).gatewayIp = v := rfl
@[simp] theorem State.setGatewayIp_netmask (s : State) (v : Word32) : (s.setGatewayIp v).netmask = s.netmask := rfl
@[simp] theorem State.setGatewayIp_arpCache (s : State) (v : Word32) : (s.setGatewayIp v).arpCache = s.arpCache := rfl
@[simp] theorem State.setGatewayIp_nextEphemeral (s : State) (v : Word32) : (s.setGatewayIp v).nextEphemeral = s.nextEphemeral := rfl
@[simp] theorem State.setGatewayIp_synCount (s : State) (v : Word32) : (s.setGatewayIp v).synCount = s.synCount := rfl
@[simp] theorem State.setGatewayIp_synBucketStart (s : State) (v : Word32) : (s.setGatewayIp v).synBucketStart = s.synBucketStart := rfl
@[simp] theorem State.setGatewayIp_nextHandle (s : State) (v : Word32) : (s.setGatewayIp v).nextHandle = s.nextHandle := rfl
@[simp] theorem State.setGatewayIp_connTable (s : State) (v : Word32) : (s.setGatewayIp v).connTable = s.connTable := rfl
@[simp] theorem State.setGatewayIp_pending (s : State) (v : Word32) : (s.setGatewayIp v).pending = s.pending := rfl
@[simp] theorem State.setGatewayIp_effects (s : State) (v : Word32) : (s.setGatewayIp v).effects = s.effects := rfl
@[simp] theorem State.setGatewayIp_results (s : State) (v : Word32) : (s.setGatewayIp v).results = s.results := rfl
@[simp] theorem State.setGatewayIp_isnDraws (s : State) (v : Word32) : (s.setGatewayIp v).isnDraws = s.isnDraws := rfl
@[simp] theorem State.setGatewayIp_txDraws (s : State) (v : Word32) : (s.setGatewayIp v).txDraws = s.txDraws := rfl

@[simp] theorem State.setNetmask_ownIp (s : State) (v : Word32) : (s.setNetmask v).ownIp = s.ownIp := rfl
@[simp] theorem State.setNetmask_gatewayIp (s : State) (v : Word32) : (s.setNetmask v).gatewayIp = s.gatewayIp := rfl
@[simp] theorem State.setNetmask_netmask (s : State) (v : Word32) : (s.setNetmask v).netmask = v := rfl
@[simp] theorem State.setNetmask_arpCache (s : State) (v : Word32) : (s.setNetmask v).arpCache = s.arpCache := rfl
@[simp] theorem State.setNetmask_nextEphemeral (s : State) (v : Word32) : (s.setNetmask v).nextEphemeral = s.nextEphemeral := rfl
@[simp] theorem State.setNetmask_synCount (s : State) (v : Word32) : (s.setNetmask v).synCount = s.synCount := rfl
@[simp] theorem State.setNetmask_synBucketStart (s : State) (v : Word32) : (s.setNetmask v).synBucketStart = s.synBucketStart := rfl
@[simp] theorem State.setNetmask_nextHandle (s : State) (v : Word32) : (s.setNetmask v).nextHandle = s.nextHandle := rfl
@[simp] theorem State.setNetmask_connTable (s : State) (v : Word32) : (s.setNetmask v).connTable = s.connTable := rfl
@[simp] theorem State.setNetmask_pending (s : State) (v : Word32) : (s.setNetmask v).pending = s.pending := rfl
@[simp] theorem State.setNetmask_effects (s : State) (v : Word32) : (s.setNetmask v).effects = s.effects := rfl
@[simp] theorem State.setNetmask_results (s : State) (v : Word32) : (s.setNetmask v).results = s.results := rfl
@[simp] theorem State.setNetmask_isnDraws (s : State) (v : Word32) : (s.setNetmask v).isnDraws = s.isnDraws := rfl
@[simp] theorem State.setNetmask_txDraws (s : State) (v : Word32) : (s.setNetmask v).txDraws = s.txDraws := rfl

@[simp] theorem State.setArpCache_ownIp (s : State) (ip : Word32) (m : Mac) : (s.setArpCache ip m).ownIp = s.ownIp := rfl
@[simp] theorem State.setArpCache_gatewayIp (s : State) (ip : Word32) (m : Mac) : (s.setArpCache ip m).gatewayIp = s.gatewayIp := rfl
@[simp] theorem State.setArpCache_netmask (s : State) (ip : Word32) (m : Mac) : (s.setArpCache ip m).netmask = s.netmask := rfl
@[simp] theorem State.setArpCache_arpCache (s : State) (ip : Word32) (m : Mac) : (s.setArpCache ip m).arpCache = ⟨ip, m⟩ := rfl
@[simp] theorem State.setArpCache_nextEphemeral (s : State) (ip : Word32) (m : Mac) : (s.setArpCache ip m).nextEphemeral = s.nextEphemeral := rfl
@[simp] theorem State.setArpCache_synCount (s : State) (ip : Word32) (m : Mac) : (s.setArpCache ip m).synCount = s.synCount := rfl
@[simp] theorem State.setArpCache_synBucketStart (s : State) (ip : Word32) (m : Mac) : (s.setArpCache ip m).synBucketStart = s.synBucketStart := rfl
@[simp] theorem State.setArpCache_nextHandle (s : State) (ip : Word32) (m : Mac) : (s.setArpCache ip m).nextHandle = s.nextHandle := rfl
@[simp] theorem State.setArpCache_connTable (s : State) (ip : Word32) (m : Mac) : (s.setArpCache ip m).connTable = s.connTable := rfl
@[simp] theorem State.setArpCache_pending (s : State) (ip : Word32) (m : Mac) : (s.setArpCache ip m).pending = s.pending := rfl
@[simp] theorem State.setArpCache_effects (s : State) (ip : Word32) (m : Mac) : (s.setArpCache ip m).effects = s.effects := rfl
@[simp] theorem State.setArpCache_results (s : State) (ip : Word32) (m : Mac) : (s.setArpCache ip m).results = s.results := rfl
@[simp] theorem State.setArpCache_isnDraws (s : State) (ip : Word32) (m : Mac) : (s.setArpCache ip m).isnDraws = s.isnDraws := rfl
@[simp] theorem State.setArpCache_txDraws (s : State) (ip : Word32) (m : Mac) : (s.setArpCache ip m).txDraws = s.txDraws := rfl

@[simp] theorem State.stepEphemeral_ownIp (s : State) : (s.stepEphemeral).ownIp = s.ownIp := rfl
@[simp] theorem State.stepEphemeral_gatewayIp (s : State) : (s.stepEphemeral).gatewayIp = s.gatewayIp := rfl
@[simp] theorem State.stepEphemeral_netmask (s : State) : (s.stepEphemeral).netmask = s.netmask := rfl
@[simp] theorem State.stepEphemeral_arpCache (s : State) : (s.stepEphemeral).arpCache = s.arpCache := rfl
@[simp] theorem State.stepEphemeral_nextEphemeral (s : State) : (s.stepEphemeral).nextEphemeral = s.nextEphemeral + 1#16 := rfl
@[simp] theorem State.stepEphemeral_synCount (s : State) : (s.stepEphemeral).synCount = s.synCount := rfl
@[simp] theorem State.stepEphemeral_synBucketStart (s : State) : (s.stepEphemeral).synBucketStart = s.synBucketStart := rfl
@[simp] theorem State.stepEphemeral_nextHandle (s : State) : (s.stepEphemeral).nextHandle = s.nextHandle := rfl
@[simp] theorem State.stepEphemeral_connTable (s : State) : (s.stepEphemeral).connTable = s.connTable := rfl
@[simp] theorem State.stepEphemeral_pending (s : State) : (s.stepEphemeral).pending = s.pending := rfl
@[simp] theorem State.stepEphemeral_effects (s : State) : (s.stepEphemeral).effects = s.effects := rfl
@[simp] theorem State.stepEphemeral_results (s : State) : (s.stepEphemeral).results = s.results := rfl
@[simp] theorem State.stepEphemeral_isnDraws (s : State) : (s.stepEphemeral).isnDraws = s.isnDraws := rfl
@[simp] theorem State.stepEphemeral_txDraws (s : State) : (s.stepEphemeral).txDraws = s.txDraws := rfl

@[simp] theorem State.setConn_ownIp (s : State) (c : Conn) : (s.setConn c).ownIp = s.ownIp := rfl
@[simp] theorem State.setConn_gatewayIp (s : State) (c : Conn) : (s.setConn c).gatewayIp = s.gatewayIp := rfl
@[simp] theorem State.setConn_netmask (s : State) (c : Conn) : (s.setConn c).netmask = s.netmask := rfl
@[simp] theorem State.setConn_arpCache (s : State) (c : Conn) : (s.setConn c).arpCache = s.arpCache := rfl
@[simp] theorem State.setConn_nextEphemeral (s : State) (c : Conn) : (s.setConn c).nextEphemeral = s.nextEphemeral := rfl
@[simp] theorem State.setConn_synCount (s : State) (c : Conn) : (s.setConn c).synCount = s.synCount := rfl
@[simp] theorem State.setConn_synBucketStart (s : State) (c : Conn) : (s.setConn c).synBucketStart = s.synBucketStart := rfl
@[simp] theorem State.setConn_nextHandle (s : State) (c : Conn) : (s.setConn c).nextHandle = s.nextHandle := rfl
@[simp] theorem State.setConn_connTable (s : State) (c : Conn) : (s.setConn c).connTable = s.connTable.map fun d => if d.handle = c.handle then c else d := rfl
@[simp] theorem State.setConn_pending (s : State) (c : Conn) : (s.setConn c).pending = s.pending := rfl
@[simp] theorem State.setConn_effects (s : State) (c : Conn) : (s.setConn c).effects = s.effects := rfl
@[simp] theorem State.setConn_results (s : State) (c : Conn) : (s.setConn c).results = s.results := rfl
@[simp] theorem State.setConn_isnDraws (s : State) (c : Conn) : (s.setConn c).isnDraws = s.isnDraws := rfl
@[simp] theorem State.setConn_txDraws (s : State) (c : Conn) : (s.setConn c).txDraws = s.txDraws := rfl

@[simp] theorem State.removeConn_ownIp (s : State) (c : Conn) : (s.removeConn c).ownIp = s.ownIp := rfl
@[simp] theorem State.removeConn_gatewayIp (s : State) (c : Conn) : (s.removeConn c).gatewayIp = s.gatewayIp := rfl
@[simp] theorem State.removeConn_netmask (s : State) (c : Conn) : (s.removeConn c).netmask = s.netmask := rfl
@[simp] theorem State.removeConn_arpCache (s : State) (c : Conn) : (s.removeConn c).arpCache = s.arpCache := rfl
@[simp] theorem State.removeConn_nextEphemeral (s : State) (c : Conn) : (s.removeConn c).nextEphemeral = s.nextEphemeral := rfl
@[simp] theorem State.removeConn_synCount (s : State) (c : Conn) : (s.removeConn c).synCount = s.synCount := rfl
@[simp] theorem State.removeConn_synBucketStart (s : State) (c : Conn) : (s.removeConn c).synBucketStart = s.synBucketStart := rfl
@[simp] theorem State.removeConn_nextHandle (s : State) (c : Conn) : (s.removeConn c).nextHandle = s.nextHandle := rfl
@[simp] theorem State.removeConn_connTable (s : State) (c : Conn) : (s.removeConn c).connTable = s.connTable.filter fun d => !decide (d.handle = c.handle) := rfl
@[simp] theorem State.removeConn_pending (s : State) (c : Conn) : (s.removeConn c).pending = s.pending := rfl
@[simp] theorem State.removeConn_effects (s : State) (c : Conn) : (s.removeConn c).effects = s.effects := rfl
@[simp] theorem State.removeConn_results (s : State) (c : Conn) : (s.removeConn c).results = s.results := rfl
@[simp] theorem State.removeConn_isnDraws (s : State) (c : Conn) : (s.removeConn c).isnDraws = s.isnDraws := rfl
@[simp] theorem State.removeConn_txDraws (s : State) (c : Conn) : (s.removeConn c).txDraws = s.txDraws := rfl

@[simp] theorem State.dropPending_ownIp (s : State) : (s.dropPending).ownIp = s.ownIp := rfl
@[simp] theorem State.dropPending_gatewayIp (s : State) : (s.dropPending).gatewayIp = s.gatewayIp := rfl
@[simp] theorem State.dropPending_netmask (s : State) : (s.dropPending).netmask = s.netmask := rfl
@[simp] theorem State.dropPending_arpCache (s : State) : (s.dropPending).arpCache = s.arpCache := rfl
@[simp] theorem State.dropPending_nextEphemeral (s : State) : (s.dropPending).nextEphemeral = s.nextEphemeral := rfl
@[simp] theorem State.dropPending_synCount (s : State) : (s.dropPending).synCount = s.synCount := rfl
@[simp] theorem State.dropPending_synBucketStart (s : State) : (s.dropPending).synBucketStart = s.synBucketStart := rfl
@[simp] theorem State.dropPending_nextHandle (s : State) : (s.dropPending).nextHandle = s.nextHandle := rfl
@[simp] theorem State.dropPending_connTable (s : State) : (s.dropPending).connTable = s.connTable := rfl
@[simp] theorem State.dropPending_pending (s : State) : (s.dropPending).pending = s.pending.tail := rfl
@[simp] theorem State.dropPending_effects (s : State) : (s.dropPending).effects = s.effects := rfl
@[simp] theorem State.dropPending_results (s : State) : (s.dropPending).results = s.results := rfl
@[simp] theorem State.dropPending_isnDraws (s : State) : (s.dropPending).isnDraws = s.isnDraws := rfl
@[simp] theorem State.dropPending_txDraws (s : State) : (s.dropPending).txDraws = s.txDraws := rfl

@[simp] theorem State.deliver_ownIp (s : State) (e : Event) : (s.deliver e).ownIp = s.ownIp := rfl
@[simp] theorem State.deliver_gatewayIp (s : State) (e : Event) : (s.deliver e).gatewayIp = s.gatewayIp := rfl
@[simp] theorem State.deliver_netmask (s : State) (e : Event) : (s.deliver e).netmask = s.netmask := rfl
@[simp] theorem State.deliver_arpCache (s : State) (e : Event) : (s.deliver e).arpCache = s.arpCache := rfl
@[simp] theorem State.deliver_nextEphemeral (s : State) (e : Event) : (s.deliver e).nextEphemeral = s.nextEphemeral := rfl
@[simp] theorem State.deliver_synCount (s : State) (e : Event) : (s.deliver e).synCount = s.synCount := rfl
@[simp] theorem State.deliver_synBucketStart (s : State) (e : Event) : (s.deliver e).synBucketStart = s.synBucketStart := rfl
@[simp] theorem State.deliver_nextHandle (s : State) (e : Event) : (s.deliver e).nextHandle = s.nextHandle := rfl
@[simp] theorem State.deliver_connTable (s : State) (e : Event) : (s.deliver e).connTable = s.connTable := rfl
@[simp] theorem State.deliver_pending (s : State) (e : Event) : (s.deliver e).pending = e :: s.pending := rfl
@[simp] theorem State.deliver_effects (s : State) (e : Event) : (s.deliver e).effects = s.effects := rfl
@[simp] theorem State.deliver_results (s : State) (e : Event) : (s.deliver e).results = s.results := rfl
@[simp] theorem State.deliver_isnDraws (s : State) (e : Event) : (s.deliver e).isnDraws = s.isnDraws := rfl
@[simp] theorem State.deliver_txDraws (s : State) (e : Event) : (s.deliver e).txDraws = s.txDraws := rfl

@[simp] theorem Conn.countSegment_handle (c : Conn) (flags : Octet) (data : Octets) :
    (c.countSegment flags data).handle = c.handle := rfl
@[simp] theorem Conn.countSegment_localIp (c : Conn) (flags : Octet) (data : Octets) :
    (c.countSegment flags data).localIp = c.localIp := rfl
@[simp] theorem Conn.countSegment_remoteIp (c : Conn) (flags : Octet) (data : Octets) :
    (c.countSegment flags data).remoteIp = c.remoteIp := rfl
@[simp] theorem Conn.countSegment_localPort (c : Conn) (flags : Octet) (data : Octets) :
    (c.countSegment flags data).localPort = c.localPort := rfl
@[simp] theorem Conn.countSegment_remotePort (c : Conn) (flags : Octet) (data : Octets) :
    (c.countSegment flags data).remotePort = c.remotePort := rfl
@[simp] theorem Conn.countSegment_state (c : Conn) (flags : Octet) (data : Octets) :
    (c.countSegment flags data).state = c.state := rfl
@[simp] theorem Conn.countSegment_seqNumber (c : Conn) (flags : Octet) (data : Octets) :
    (c.countSegment flags data).seqNumber = c.seqNumber + BitVec.ofNat 32 (data.length + flagsSequenceCount flags) := rfl
@[simp] theorem Conn.countSegment_ackNumber (c : Conn) (flags : Octet) (data : Octets) :
    (c.countSegment flags data).ackNumber = c.ackNumber := rfl
@[simp] theorem Conn.countSegment_sendWindowStart (c : Conn) (flags : Octet) (data : Octets) :
    (c.countSegment flags data).sendWindowStart = c.sendWindowStart := rfl
@[simp] theorem Conn.countSegment_sendWindowEnd (c : Conn) (flags : Octet) (data : Octets) :
    (c.countSegment flags data).sendWindowEnd = c.sendWindowEnd := rfl
@[simp] theorem Conn.countSegment_recvWindowStart (c : Conn) (flags : Octet) (data : Octets) :
    (c.countSegment flags data).recvWindowStart = c.recvWindowStart := rfl
@[simp] theorem Conn.countSegment_recvWindowEnd (c : Conn) (flags : Octet) (data : Octets) :
    (c.countSegment flags data).recvWindowEnd = c.recvWindowEnd := rfl
@[simp] theorem Conn.countSegment_recvBuf (c : Conn) (flags : Octet) (data : Octets) :
    (c.countSegment flags data).recvBuf = c.recvBuf := rfl
@[simp] theorem Conn.countSegment_recvStart (c : Conn) (flags : Octet) (data : Octets) :
    (c.countSegment flags data).recvStart = c.recvStart := rfl
@[simp] theorem Conn.countSegment_recvEnd (c : Conn) (flags : Octet) (data : Octets) :
    (c.countSegment flags data).recvEnd = c.recvEnd := rfl
@[simp] theorem Conn.countSegment_recvCount (c : Conn) (flags : Octet) (data : Octets) :
    (c.countSegment flags data).recvCount = c.recvCount := rfl
@[simp] theorem Conn.countSegment_lastAckTime (c : Conn) (flags : Octet) (data : Octets) :
    (c.countSegment flags data).lastAckTime = c.lastAckTime := rfl
@[simp] theorem Conn.countSegment_rto (c : Conn) (flags : Octet) (data : Octets) :
    (c.countSegment flags data).rto = c.rto := rfl
@[simp] theorem Conn.countSegment_retransmitCount (c : Conn) (flags : Octet) (data : Octets) :
    (c.countSegment flags data).retransmitCount = c.retransmitCount := rfl
@[simp] theorem Conn.countSegment_synTimestamp (c : Conn) (flags : Octet) (data : Octets) :
    (c.countSegment flags data).synTimestamp = c.synTimestamp := rfl
@[simp] theorem Conn.countSegment_synCookieEnabled (c : Conn) (flags : Octet) (data : Octets) :
    (c.countSegment flags data).synCookieEnabled = c.synCookieEnabled := rfl

end Sys2Proof.Machine
end

