-- ==== Sys2Proof/Laws/Ops.lean ====
section
/-! SUPPORT. One lemma per shared operation saying once what it can do: the sends, the connection table, the flood bucket, the drop
(spec/41_ethernet.md R175, spec/42_arp.md R195, R196, spec/43_ipv4.md R218, spec/47_tcp_rx.md R294 to R299). -/

namespace Sys2Proof.Machine

/-! ### Sends: they advance the number of draws and append frames, and do nothing else -/

/-- The frames `ETH.SEND` emits: one, or none where the draw is false (R175, R176). -/
theorem ethSend_eq (cfg : Config) (dest : Mac) (t : Word16) (p : Octets) (s : State) :
    ethSend cfg dest t p s =
      { s with
        txDraws := s.txDraws + 1
        effects := s.effects ++ if cfg.txAlloc s.txDraws (14 + p.length) then [.tx (ethFrame cfg dest t p)] else [] } := rfl


@[simp] theorem ethSend_ownIp (cfg : Config) (dest : Mac) (t : Word16) (p : Octets) (s : State) :
    (ethSend cfg dest t p s).ownIp = s.ownIp := rfl
@[simp] theorem ethSend_gatewayIp (cfg : Config) (dest : Mac) (t : Word16) (p : Octets) (s : State) :
    (ethSend cfg dest t p s).gatewayIp = s.gatewayIp := rfl
@[simp] theorem ethSend_netmask (cfg : Config) (dest : Mac) (t : Word16) (p : Octets) (s : State) :
    (ethSend cfg dest t p s).netmask = s.netmask := rfl
@[simp] theorem ethSend_arpCache (cfg : Config) (dest : Mac) (t : Word16) (p : Octets) (s : State) :
    (ethSend cfg dest t p s).arpCache = s.arpCache := rfl
@[simp] theorem ethSend_nextEphemeral (cfg : Config) (dest : Mac) (t : Word16) (p : Octets) (s : State) :
    (ethSend cfg dest t p s).nextEphemeral = s.nextEphemeral := rfl
@[simp] theorem ethSend_synCount (cfg : Config) (dest : Mac) (t : Word16) (p : Octets) (s : State) :
    (ethSend cfg dest t p s).synCount = s.synCount := rfl
@[simp] theorem ethSend_synBucketStart (cfg : Config) (dest : Mac) (t : Word16) (p : Octets) (s : State) :
    (ethSend cfg dest t p s).synBucketStart = s.synBucketStart := rfl
@[simp] theorem ethSend_nextHandle (cfg : Config) (dest : Mac) (t : Word16) (p : Octets) (s : State) :
    (ethSend cfg dest t p s).nextHandle = s.nextHandle := rfl
@[simp] theorem ethSend_connTable (cfg : Config) (dest : Mac) (t : Word16) (p : Octets) (s : State) :
    (ethSend cfg dest t p s).connTable = s.connTable := rfl
@[simp] theorem ethSend_pending (cfg : Config) (dest : Mac) (t : Word16) (p : Octets) (s : State) :
    (ethSend cfg dest t p s).pending = s.pending := rfl
@[simp] theorem ethSend_results (cfg : Config) (dest : Mac) (t : Word16) (p : Octets) (s : State) :
    (ethSend cfg dest t p s).results = s.results := rfl
@[simp] theorem ethSend_isnDraws (cfg : Config) (dest : Mac) (t : Word16) (p : Octets) (s : State) :
    (ethSend cfg dest t p s).isnDraws = s.isnDraws := rfl

@[simp] theorem arpRequest_ownIp (cfg : Config) (ip : Word32) (s : State) :
    (arpRequest cfg ip s).ownIp = s.ownIp := rfl
@[simp] theorem arpRequest_gatewayIp (cfg : Config) (ip : Word32) (s : State) :
    (arpRequest cfg ip s).gatewayIp = s.gatewayIp := rfl
@[simp] theorem arpRequest_netmask (cfg : Config) (ip : Word32) (s : State) :
    (arpRequest cfg ip s).netmask = s.netmask := rfl
@[simp] theorem arpRequest_arpCache (cfg : Config) (ip : Word32) (s : State) :
    (arpRequest cfg ip s).arpCache = s.arpCache := rfl
@[simp] theorem arpRequest_nextEphemeral (cfg : Config) (ip : Word32) (s : State) :
    (arpRequest cfg ip s).nextEphemeral = s.nextEphemeral := rfl
@[simp] theorem arpRequest_synCount (cfg : Config) (ip : Word32) (s : State) :
    (arpRequest cfg ip s).synCount = s.synCount := rfl
@[simp] theorem arpRequest_synBucketStart (cfg : Config) (ip : Word32) (s : State) :
    (arpRequest cfg ip s).synBucketStart = s.synBucketStart := rfl
@[simp] theorem arpRequest_nextHandle (cfg : Config) (ip : Word32) (s : State) :
    (arpRequest cfg ip s).nextHandle = s.nextHandle := rfl
@[simp] theorem arpRequest_connTable (cfg : Config) (ip : Word32) (s : State) :
    (arpRequest cfg ip s).connTable = s.connTable := rfl
@[simp] theorem arpRequest_pending (cfg : Config) (ip : Word32) (s : State) :
    (arpRequest cfg ip s).pending = s.pending := rfl
@[simp] theorem arpRequest_results (cfg : Config) (ip : Word32) (s : State) :
    (arpRequest cfg ip s).results = s.results := rfl
@[simp] theorem arpRequest_isnDraws (cfg : Config) (ip : Word32) (s : State) :
    (arpRequest cfg ip s).isnDraws = s.isnDraws := rfl

@[simp] theorem arpResolve_ownIp (cfg : Config) (ip : Word32) (s : State) :
    (arpResolve cfg ip s).ownIp = s.ownIp := by
  unfold arpResolve; split <;> rfl
@[simp] theorem arpResolve_gatewayIp (cfg : Config) (ip : Word32) (s : State) :
    (arpResolve cfg ip s).gatewayIp = s.gatewayIp := by
  unfold arpResolve; split <;> rfl
@[simp] theorem arpResolve_netmask (cfg : Config) (ip : Word32) (s : State) :
    (arpResolve cfg ip s).netmask = s.netmask := by
  unfold arpResolve; split <;> rfl
@[simp] theorem arpResolve_arpCache (cfg : Config) (ip : Word32) (s : State) :
    (arpResolve cfg ip s).arpCache = s.arpCache := by
  unfold arpResolve; split <;> rfl
@[simp] theorem arpResolve_nextEphemeral (cfg : Config) (ip : Word32) (s : State) :
    (arpResolve cfg ip s).nextEphemeral = s.nextEphemeral := by
  unfold arpResolve; split <;> rfl
@[simp] theorem arpResolve_synCount (cfg : Config) (ip : Word32) (s : State) :
    (arpResolve cfg ip s).synCount = s.synCount := by
  unfold arpResolve; split <;> rfl
@[simp] theorem arpResolve_synBucketStart (cfg : Config) (ip : Word32) (s : State) :
    (arpResolve cfg ip s).synBucketStart = s.synBucketStart := by
  unfold arpResolve; split <;> rfl
@[simp] theorem arpResolve_nextHandle (cfg : Config) (ip : Word32) (s : State) :
    (arpResolve cfg ip s).nextHandle = s.nextHandle := by
  unfold arpResolve; split <;> rfl
@[simp] theorem arpResolve_connTable (cfg : Config) (ip : Word32) (s : State) :
    (arpResolve cfg ip s).connTable = s.connTable := by
  unfold arpResolve; split <;> rfl
@[simp] theorem arpResolve_pending (cfg : Config) (ip : Word32) (s : State) :
    (arpResolve cfg ip s).pending = s.pending := by
  unfold arpResolve; split <;> rfl
@[simp] theorem arpResolve_results (cfg : Config) (ip : Word32) (s : State) :
    (arpResolve cfg ip s).results = s.results := by
  unfold arpResolve; split <;> rfl
@[simp] theorem arpResolve_isnDraws (cfg : Config) (ip : Word32) (s : State) :
    (arpResolve cfg ip s).isnDraws = s.isnDraws := by
  unfold arpResolve; split <;> rfl

@[simp] theorem ipSend_ownIp (cfg : Config) (dest : Word32) (pr : Octet) (p : Octets) (s : State) :
    (ipSend cfg dest pr p s).ownIp = s.ownIp := by
  simp [ipSend]
@[simp] theorem ipSend_gatewayIp (cfg : Config) (dest : Word32) (pr : Octet) (p : Octets) (s : State) :
    (ipSend cfg dest pr p s).gatewayIp = s.gatewayIp := by
  simp [ipSend]
@[simp] theorem ipSend_netmask (cfg : Config) (dest : Word32) (pr : Octet) (p : Octets) (s : State) :
    (ipSend cfg dest pr p s).netmask = s.netmask := by
  simp [ipSend]
@[simp] theorem ipSend_arpCache (cfg : Config) (dest : Word32) (pr : Octet) (p : Octets) (s : State) :
    (ipSend cfg dest pr p s).arpCache = s.arpCache := by
  simp [ipSend]
@[simp] theorem ipSend_nextEphemeral (cfg : Config) (dest : Word32) (pr : Octet) (p : Octets) (s : State) :
    (ipSend cfg dest pr p s).nextEphemeral = s.nextEphemeral := by
  simp [ipSend]
@[simp] theorem ipSend_synCount (cfg : Config) (dest : Word32) (pr : Octet) (p : Octets) (s : State) :
    (ipSend cfg dest pr p s).synCount = s.synCount := by
  simp [ipSend]
@[simp] theorem ipSend_synBucketStart (cfg : Config) (dest : Word32) (pr : Octet) (p : Octets) (s : State) :
    (ipSend cfg dest pr p s).synBucketStart = s.synBucketStart := by
  simp [ipSend]
@[simp] theorem ipSend_nextHandle (cfg : Config) (dest : Word32) (pr : Octet) (p : Octets) (s : State) :
    (ipSend cfg dest pr p s).nextHandle = s.nextHandle := by
  simp [ipSend]
@[simp] theorem ipSend_connTable (cfg : Config) (dest : Word32) (pr : Octet) (p : Octets) (s : State) :
    (ipSend cfg dest pr p s).connTable = s.connTable := by
  simp [ipSend]
@[simp] theorem ipSend_pending (cfg : Config) (dest : Word32) (pr : Octet) (p : Octets) (s : State) :
    (ipSend cfg dest pr p s).pending = s.pending := by
  simp [ipSend]
@[simp] theorem ipSend_results (cfg : Config) (dest : Word32) (pr : Octet) (p : Octets) (s : State) :
    (ipSend cfg dest pr p s).results = s.results := by
  simp [ipSend]
@[simp] theorem ipSend_isnDraws (cfg : Config) (dest : Word32) (pr : Octet) (p : Octets) (s : State) :
    (ipSend cfg dest pr p s).isnDraws = s.isnDraws := by
  simp [ipSend]

@[simp] theorem udpSend_ownIp (cfg : Config) (dest : Word32) (sp dp : Word16) (p : Octets) (s : State) :
    (udpSend cfg dest sp dp p s).ownIp = s.ownIp := by
  simp [udpSend]
@[simp] theorem udpSend_gatewayIp (cfg : Config) (dest : Word32) (sp dp : Word16) (p : Octets) (s : State) :
    (udpSend cfg dest sp dp p s).gatewayIp = s.gatewayIp := by
  simp [udpSend]
@[simp] theorem udpSend_netmask (cfg : Config) (dest : Word32) (sp dp : Word16) (p : Octets) (s : State) :
    (udpSend cfg dest sp dp p s).netmask = s.netmask := by
  simp [udpSend]
@[simp] theorem udpSend_arpCache (cfg : Config) (dest : Word32) (sp dp : Word16) (p : Octets) (s : State) :
    (udpSend cfg dest sp dp p s).arpCache = s.arpCache := by
  simp [udpSend]
@[simp] theorem udpSend_nextEphemeral (cfg : Config) (dest : Word32) (sp dp : Word16) (p : Octets) (s : State) :
    (udpSend cfg dest sp dp p s).nextEphemeral = s.nextEphemeral := by
  simp [udpSend]
@[simp] theorem udpSend_synCount (cfg : Config) (dest : Word32) (sp dp : Word16) (p : Octets) (s : State) :
    (udpSend cfg dest sp dp p s).synCount = s.synCount := by
  simp [udpSend]
@[simp] theorem udpSend_synBucketStart (cfg : Config) (dest : Word32) (sp dp : Word16) (p : Octets) (s : State) :
    (udpSend cfg dest sp dp p s).synBucketStart = s.synBucketStart := by
  simp [udpSend]
@[simp] theorem udpSend_nextHandle (cfg : Config) (dest : Word32) (sp dp : Word16) (p : Octets) (s : State) :
    (udpSend cfg dest sp dp p s).nextHandle = s.nextHandle := by
  simp [udpSend]
@[simp] theorem udpSend_connTable (cfg : Config) (dest : Word32) (sp dp : Word16) (p : Octets) (s : State) :
    (udpSend cfg dest sp dp p s).connTable = s.connTable := by
  simp [udpSend]
@[simp] theorem udpSend_pending (cfg : Config) (dest : Word32) (sp dp : Word16) (p : Octets) (s : State) :
    (udpSend cfg dest sp dp p s).pending = s.pending := by
  simp [udpSend]
@[simp] theorem udpSend_results (cfg : Config) (dest : Word32) (sp dp : Word16) (p : Octets) (s : State) :
    (udpSend cfg dest sp dp p s).results = s.results := by
  simp [udpSend]
@[simp] theorem udpSend_isnDraws (cfg : Config) (dest : Word32) (sp dp : Word16) (p : Octets) (s : State) :
    (udpSend cfg dest sp dp p s).isnDraws = s.isnDraws := by
  simp [udpSend]

@[simp] theorem emitSeg_ownIp (cfg : Config) (c : Conn) (fl : Octet) (d : Octets) (s : State) :
    (emitSeg cfg c fl d s).ownIp = s.ownIp := by
  simp [emitSeg]
@[simp] theorem emitSeg_gatewayIp (cfg : Config) (c : Conn) (fl : Octet) (d : Octets) (s : State) :
    (emitSeg cfg c fl d s).gatewayIp = s.gatewayIp := by
  simp [emitSeg]
@[simp] theorem emitSeg_netmask (cfg : Config) (c : Conn) (fl : Octet) (d : Octets) (s : State) :
    (emitSeg cfg c fl d s).netmask = s.netmask := by
  simp [emitSeg]
@[simp] theorem emitSeg_arpCache (cfg : Config) (c : Conn) (fl : Octet) (d : Octets) (s : State) :
    (emitSeg cfg c fl d s).arpCache = s.arpCache := by
  simp [emitSeg]
@[simp] theorem emitSeg_nextEphemeral (cfg : Config) (c : Conn) (fl : Octet) (d : Octets) (s : State) :
    (emitSeg cfg c fl d s).nextEphemeral = s.nextEphemeral := by
  simp [emitSeg]
@[simp] theorem emitSeg_synCount (cfg : Config) (c : Conn) (fl : Octet) (d : Octets) (s : State) :
    (emitSeg cfg c fl d s).synCount = s.synCount := by
  simp [emitSeg]
@[simp] theorem emitSeg_synBucketStart (cfg : Config) (c : Conn) (fl : Octet) (d : Octets) (s : State) :
    (emitSeg cfg c fl d s).synBucketStart = s.synBucketStart := by
  simp [emitSeg]
@[simp] theorem emitSeg_nextHandle (cfg : Config) (c : Conn) (fl : Octet) (d : Octets) (s : State) :
    (emitSeg cfg c fl d s).nextHandle = s.nextHandle := by
  simp [emitSeg]
@[simp] theorem emitSeg_connTable (cfg : Config) (c : Conn) (fl : Octet) (d : Octets) (s : State) :
    (emitSeg cfg c fl d s).connTable = s.connTable := by
  simp [emitSeg]
@[simp] theorem emitSeg_pending (cfg : Config) (c : Conn) (fl : Octet) (d : Octets) (s : State) :
    (emitSeg cfg c fl d s).pending = s.pending := by
  simp [emitSeg]
@[simp] theorem emitSeg_results (cfg : Config) (c : Conn) (fl : Octet) (d : Octets) (s : State) :
    (emitSeg cfg c fl d s).results = s.results := by
  simp [emitSeg]
@[simp] theorem emitSeg_isnDraws (cfg : Config) (c : Conn) (fl : Octet) (d : Octets) (s : State) :
    (emitSeg cfg c fl d s).isnDraws = s.isnDraws := by
  simp [emitSeg]

/-- A hit of the cache: nothing is emitted (R196). -/
theorem arpResolve_hit (cfg : Config) {ip : Word32} {s : State} (h : ip = s.arpCache.ip) : arpResolve cfg ip s = s := if_pos h

/-- A miss of the cache: one request (R196). -/
theorem arpResolve_miss (cfg : Config) {ip : Word32} {s : State} (h : ip ≠ s.arpCache.ip) :
    arpResolve cfg ip s = arpRequest cfg ip s := if_neg h

/-- Resolving only appends effects (R76). -/
theorem arpResolve_effects_prefix (cfg : Config) (ip : Word32) (s : State) :
    s.effects <+: (arpResolve cfg ip s).effects := by
  unfold arpResolve; split
  · exact List.prefix_refl _
  · exact List.prefix_append _ _

/-- `ETH.SEND` only appends effects (R76). -/
theorem ethSend_effects_prefix (cfg : Config) (dest : Mac) (t : Word16) (p : Octets) (s : State) :
    s.effects <+: (ethSend cfg dest t p s).effects := List.prefix_append _ _

/-- `IP.SEND` only appends effects (R76). -/
theorem ipSend_effects_prefix (cfg : Config) (dest : Word32) (pr : Octet) (p : Octets) (s : State) :
    s.effects <+: (ipSend cfg dest pr p s).effects :=
  (arpResolve_effects_prefix cfg _ s).trans (ethSend_effects_prefix cfg _ _ _ _)

/-- `EmitSeg` only appends effects (R76). -/
theorem emitSeg_effects_prefix (cfg : Config) (c : Conn) (fl : Octet) (d : Octets) (s : State) :
    s.effects <+: (emitSeg cfg c fl d s).effects := ipSend_effects_prefix cfg _ _ _ s

/-! ### The connection table -/

/-- What a lookup finds stands in the table under the 4-tuple asked for (R294). -/
theorem lookup_some {s : State} {lip rip : Word32} {lp rp : Word16} {c : Conn} (h : s.lookup lip rip lp rp = some c) :
    c ∈ s.connTable ∧ c.localIp = lip ∧ c.remoteIp = rip ∧ c.localPort = lp ∧ c.remotePort = rp := by
  refine ⟨List.mem_of_find?_eq_some h, ?_⟩
  simpa [and_assoc] using List.find?_some h

/-- A lookup that finds nothing: no record has the 4-tuple (R294). -/
theorem lookup_none {s : State} {lip rip : Word32} {lp rp : Word16} (h : s.lookup lip rip lp rp = none) :
    ∀ c ∈ s.connTable, ¬ (c.localIp = lip ∧ c.remoteIp = rip ∧ c.localPort = lp ∧ c.remotePort = rp) := by
  intro c hc hk
  have := List.find?_eq_none.mp h c hc
  simp [hk] at this

/-- What a handle names stands in the table under that handle (R341). -/
theorem byHandle_some {s : State} {h : Int} {c : Conn} (hf : s.byHandle h = some c) : c ∈ s.connTable ∧ (c.handle : Int) = h := by
  refine ⟨List.mem_of_find?_eq_some hf, ?_⟩
  simpa using List.find?_some hf

/-- A handle that names an ESTABLISHED record (R340). -/
theorem establishedByHandle_some {s : State} {h : Int} {c : Conn} (hf : s.establishedByHandle h = some c) :
    c ∈ s.connTable ∧ (c.handle : Int) = h ∧ c.state = .established := by
  obtain ⟨h1, h2⟩ := Option.filter_eq_some_iff.mp hf
  obtain ⟨h3, h4⟩ := byHandle_some h1
  exact ⟨h3, h4, by simpa using h2⟩

/-- The two ways out of `CreateConn` (R295): failure changes nothing; success adds one record with the creation values, under a
4-tuple no record had, and takes one handle and one draw. -/
theorem createConn_some {cfg : Config} {lip rip : Word32} {lp rp : Word16} {st : TcpState} {s t : State} {c : Conn}
    (h : createConn cfg lip rip lp rp st s = some (c, t)) :
    s.lookup lip rip lp rp = none ∧ s.tableFull cfg = false ∧
      c = newConn cfg s.nextHandle lip rip lp rp st (cfg.isn s.isnDraws) ∧
      t = { s with
        nextHandle := s.nextHandle + 1
        isnDraws := s.isnDraws + 1
        connTable := s.connTable ++ [c] } := by
  unfold createConn at h
  split at h
  · cases h
  · split at h
    · cases h
    · rename_i h1 h2
      simp only [Option.some.injEq, Prod.mk.injEq] at h
      obtain ⟨rfl, rfl⟩ := h
      exact ⟨by simpa using h1, by simpa using h2, rfl, rfl⟩

/-- When `CreateConn` succeeds (R295). -/
theorem createConn_isSome (cfg : Config) (lip rip : Word32) (lp rp : Word16) (st : TcpState) (s : State) :
    (createConn cfg lip rip lp rp st s).isSome = ((s.lookup lip rip lp rp).isNone && !s.tableFull cfg) := by
  unfold createConn
  cases s.lookup lip rip lp rp <;> cases s.tableFull cfg <;> simp

/-- The records after `setConn`: the record under its handle, every other record as it was. -/
theorem mem_setConn {s : State} {c d : Conn} (h : d ∈ (s.setConn c).connTable) :
    (d = c ∧ ∃ e ∈ s.connTable, e.handle = c.handle) ∨ (d ∈ s.connTable ∧ d.handle ≠ c.handle) := by
  obtain ⟨e, he, rfl⟩ := List.mem_map.mp h
  split
  · exact .inl ⟨rfl, e, he, ‹_›⟩
  · exact .inr ⟨he, ‹_›⟩

/-- The records after `removeConn` (R296). -/
theorem mem_removeConn {s : State} {c d : Conn} : d ∈ (s.removeConn c).connTable ↔ d ∈ s.connTable ∧ d.handle ≠ c.handle := by
  simp [State.removeConn, List.mem_filter]

/-- `setConn` changes no handle. -/
@[simp] theorem setConn_handles (s : State) (c : Conn) :
    (s.setConn c).connTable.map (·.handle) = s.connTable.map (·.handle) := by
  simp only [State.setConn_connTable, List.map_map]
  refine List.map_congr_left fun d _ => ?_
  simp only [Function.comp_apply]
  split <;> simp_all

@[simp] theorem setConn_length (s : State) (c : Conn) : (s.setConn c).connTable.length = s.connTable.length := by
  simp

/-! ### The flood bucket (R297) -/

@[simp] theorem countSyn_ownIp (cfg : Config) (now : Nat) (s : State) : (countSyn cfg now s).ownIp = s.ownIp := by
  unfold countSyn; split <;> rfl
@[simp] theorem countSyn_gatewayIp (cfg : Config) (now : Nat) (s : State) : (countSyn cfg now s).gatewayIp = s.gatewayIp := by
  unfold countSyn; split <;> rfl
@[simp] theorem countSyn_netmask (cfg : Config) (now : Nat) (s : State) : (countSyn cfg now s).netmask = s.netmask := by
  unfold countSyn; split <;> rfl
@[simp] theorem countSyn_arpCache (cfg : Config) (now : Nat) (s : State) : (countSyn cfg now s).arpCache = s.arpCache := by
  unfold countSyn; split <;> rfl
@[simp] theorem countSyn_nextEphemeral (cfg : Config) (now : Nat) (s : State) : (countSyn cfg now s).nextEphemeral = s.nextEphemeral := by
  unfold countSyn; split <;> rfl
@[simp] theorem countSyn_nextHandle (cfg : Config) (now : Nat) (s : State) : (countSyn cfg now s).nextHandle = s.nextHandle := by
  unfold countSyn; split <;> rfl
@[simp] theorem countSyn_connTable (cfg : Config) (now : Nat) (s : State) : (countSyn cfg now s).connTable = s.connTable := by
  unfold countSyn; split <;> rfl
@[simp] theorem countSyn_pending (cfg : Config) (now : Nat) (s : State) : (countSyn cfg now s).pending = s.pending := by
  unfold countSyn; split <;> rfl
@[simp] theorem countSyn_results (cfg : Config) (now : Nat) (s : State) : (countSyn cfg now s).results = s.results := by
  unfold countSyn; split <;> rfl
@[simp] theorem countSyn_isnDraws (cfg : Config) (now : Nat) (s : State) : (countSyn cfg now s).isnDraws = s.isnDraws := by
  unfold countSyn; split <;> rfl
@[simp] theorem countSyn_effects (cfg : Config) (now : Nat) (s : State) : (countSyn cfg now s).effects = s.effects := by
  unfold countSyn; split <;> rfl
@[simp] theorem countSyn_txDraws (cfg : Config) (now : Nat) (s : State) : (countSyn cfg now s).txDraws = s.txDraws := by
  unfold countSyn; split <;> rfl

/-- A new bucket starts with this SYN (R297). -/
theorem countSyn_restart {cfg : Config} {now : Nat} {s : State}
    (h : now < s.synBucketStart ∨ cfg.ticksPerSecond ≤ now - s.synBucketStart) :
    countSyn cfg now s = { s with synBucketStart := now, synCount := 1 } := if_pos h

/-- The bucket goes on and this SYN is counted (R297). -/
theorem countSyn_count {cfg : Config} {now : Nat} {s : State}
    (h : ¬ (now < s.synBucketStart ∨ cfg.ticksPerSecond ≤ now - s.synBucketStart)) :
    countSyn cfg now s = { s with synCount := s.synCount + 1 } := if_neg h

/-! ### What commutes with sending, and a record just created -/

/-- Sending reads `own_ip`, the routing registers and the cache alone, so it commutes with writes of the other registers. -/
theorem emitSeg_comm (cfg : Config) (c : Conn) (fl : Octet) (d : Octets) (s : State) (ephemeral : Word16) (count start handle : Nat)
    (table : List Conn) (draws : Nat) :
    emitSeg cfg c fl d { s with
      nextEphemeral := ephemeral, synCount := count, synBucketStart := start, nextHandle := handle, connTable := table
      isnDraws := draws } =
    { emitSeg cfg c fl d s with
      nextEphemeral := ephemeral, synCount := count, synBucketStart := start, nextHandle := handle, connTable := table
      isnDraws := draws } := by
  simp only [emitSeg, ipSend, arpResolve, resolvedMac, State.nextHop]
  split <;> split <;> rfl

/-- Writing back a record just added at the end of the table, whose handle is new: the records before it stay. -/
theorem setConn_append_fresh {s : State} {l : List Conn} {c c' : Conn} (hs : s.connTable = l ++ [c]) (hh : c'.handle = c.handle)
    (hf : ∀ d ∈ l, d.handle < c.handle) : s.setConn c' = { s with connTable := l ++ [c'] } := by
  have hl : (l.map fun d => if d.handle = c.handle then c' else d) = l := by
    conv_rhs => rw [← List.map_id l]
    refine List.map_congr_left fun d hd => ?_
    rw [if_neg (by have := hf d hd; omega)]; rfl
  simp only [State.setConn, hs, hh, List.map_append, List.map_cons, List.map_nil, hl, if_true]

/-- A handle that names an ESTABLISHED record names it for ACCEPT, SEND and RECV. -/
theorem establishedByHandle_eq {s : State} {h : Int} {c : Conn} (hb : s.byHandle h = some c) (hc : c.state = .established) :
    s.establishedByHandle h = some c := by
  rw [State.establishedByHandle, hb]; simp [Option.filter, hc]

/-- A handle that names no ESTABLISHED record names nothing for ACCEPT, SEND and RECV. -/
theorem establishedByHandle_none {s : State} {h : Int} (hb : ∀ c, s.byHandle h = some c → c.state ≠ .established) :
    s.establishedByHandle h = none := by
  rw [State.establishedByHandle]
  cases hr : s.byHandle h
  · rfl
  · simp [Option.filter, hb _ hr]

end Sys2Proof.Machine
end

