-- ==== Sys2Proof/Laws/PerInstr.lean ====
section
/-! SUPPORT. The per-instruction laws: the encoder writes each instruction in the format of its row of spec/opcode_table.json. -/

/-- The encoding of an instruction has the format its row of the table names (R117). -/
def Sys2Proof.Laws.EncodedFormat.Statement (i : Sys2Proof.Instr) : Prop := (Sys2Proof.encode i).format = i.row.format

theorem Sys2Proof.Laws.EncodedFormat.ethRxIpv4 (payload : Sys2Proof.Octets) (now : Nat) :
    Sys2Proof.Laws.EncodedFormat.Statement (.ethRxIpv4 payload now) := rfl
theorem Sys2Proof.Laws.EncodedFormat.ethRxIpv4Swapped (payload : Sys2Proof.Octets) (now : Nat) :
    Sys2Proof.Laws.EncodedFormat.Statement (.ethRxIpv4Swapped payload now) := rfl
theorem Sys2Proof.Laws.EncodedFormat.ethRxArp (payload : Sys2Proof.Octets) :
    Sys2Proof.Laws.EncodedFormat.Statement (.ethRxArp payload) := rfl
theorem Sys2Proof.Laws.EncodedFormat.ethRxArpSwapped (payload : Sys2Proof.Octets) :
    Sys2Proof.Laws.EncodedFormat.Statement (.ethRxArpSwapped payload) := rfl
theorem Sys2Proof.Laws.EncodedFormat.ethRxUnknown (ethertype : Sys2Proof.Word16) :
    Sys2Proof.Laws.EncodedFormat.Statement (.ethRxUnknown ethertype) := rfl
theorem Sys2Proof.Laws.EncodedFormat.arpRxRequest (sha : Sys2Proof.Mac) (spa : Sys2Proof.Word32) (tpa : Sys2Proof.Word32) :
    Sys2Proof.Laws.EncodedFormat.Statement (.arpRxRequest sha spa tpa) := rfl
theorem Sys2Proof.Laws.EncodedFormat.arpRxOther (opcode : Sys2Proof.Word16) (sha : Sys2Proof.Mac) (spa : Sys2Proof.Word32) (tpa : Sys2Proof.Word32) :
    Sys2Proof.Laws.EncodedFormat.Statement (.arpRxOther opcode sha spa tpa) := rfl
theorem Sys2Proof.Laws.EncodedFormat.ipRxIcmp (srcIp : Sys2Proof.Word32) (payload : Sys2Proof.Octets) :
    Sys2Proof.Laws.EncodedFormat.Statement (.ipRxIcmp srcIp payload) := rfl
theorem Sys2Proof.Laws.EncodedFormat.ipRxTcp (srcIp : Sys2Proof.Word32) (payload : Sys2Proof.Octets) (now : Nat) :
    Sys2Proof.Laws.EncodedFormat.Statement (.ipRxTcp srcIp payload now) := rfl
theorem Sys2Proof.Laws.EncodedFormat.ipRxUdp (srcIp : Sys2Proof.Word32) (payload : Sys2Proof.Octets) :
    Sys2Proof.Laws.EncodedFormat.Statement (.ipRxUdp srcIp payload) := rfl
theorem Sys2Proof.Laws.EncodedFormat.ipRxUnknown (protocol : Sys2Proof.Octet) :
    Sys2Proof.Laws.EncodedFormat.Statement (.ipRxUnknown protocol) := rfl
theorem Sys2Proof.Laws.EncodedFormat.icmpRxEchoReply (srcIp : Sys2Proof.Word32) (nbytes : Nat) (sequence : Sys2Proof.Word16) :
    Sys2Proof.Laws.EncodedFormat.Statement (.icmpRxEchoReply srcIp nbytes sequence) := rfl
theorem Sys2Proof.Laws.EncodedFormat.icmpRxOther (icmpType : Sys2Proof.Octet) :
    Sys2Proof.Laws.EncodedFormat.Statement (.icmpRxOther icmpType) := rfl
theorem Sys2Proof.Laws.EncodedFormat.udpRxDhcpClient (payload : Sys2Proof.Octets) :
    Sys2Proof.Laws.EncodedFormat.Statement (.udpRxDhcpClient payload) := rfl
theorem Sys2Proof.Laws.EncodedFormat.udpRxOther (destPort : Sys2Proof.Word16) :
    Sys2Proof.Laws.EncodedFormat.Statement (.udpRxOther destPort) := rfl
theorem Sys2Proof.Laws.EncodedFormat.dhcpOptPad :
    Sys2Proof.Laws.EncodedFormat.Statement (.dhcpOptPad) := rfl
theorem Sys2Proof.Laws.EncodedFormat.dhcpOptEnd :
    Sys2Proof.Laws.EncodedFormat.Statement (.dhcpOptEnd) := rfl
theorem Sys2Proof.Laws.EncodedFormat.dhcpOptSubnetMask (value : Sys2Proof.Octets) :
    Sys2Proof.Laws.EncodedFormat.Statement (.dhcpOptSubnetMask value) := rfl
theorem Sys2Proof.Laws.EncodedFormat.dhcpOptRouter (value : Sys2Proof.Octets) :
    Sys2Proof.Laws.EncodedFormat.Statement (.dhcpOptRouter value) := rfl
theorem Sys2Proof.Laws.EncodedFormat.dhcpOptOther (code : Sys2Proof.Octet) (value : Sys2Proof.Octets) :
    Sys2Proof.Laws.EncodedFormat.Statement (.dhcpOptOther code value) := rfl
theorem Sys2Proof.Laws.EncodedFormat.tcpRxNoconnSyn (srcIp : Sys2Proof.Word32) (seg : Sys2Proof.TcpSeg) (now : Nat) :
    Sys2Proof.Laws.EncodedFormat.Statement (.tcpRxNoconnSyn srcIp seg now) := rfl
theorem Sys2Proof.Laws.EncodedFormat.tcpRxNoconnOther (srcIp : Sys2Proof.Word32) (seg : Sys2Proof.TcpSeg) :
    Sys2Proof.Laws.EncodedFormat.Statement (.tcpRxNoconnOther srcIp seg) := rfl
theorem Sys2Proof.Laws.EncodedFormat.tcpRxListenSyn (srcIp : Sys2Proof.Word32) (seg : Sys2Proof.TcpSeg) :
    Sys2Proof.Laws.EncodedFormat.Statement (.tcpRxListenSyn srcIp seg) := rfl
theorem Sys2Proof.Laws.EncodedFormat.tcpRxSynSentSynack (srcIp : Sys2Proof.Word32) (seg : Sys2Proof.TcpSeg) :
    Sys2Proof.Laws.EncodedFormat.Statement (.tcpRxSynSentSynack srcIp seg) := rfl
theorem Sys2Proof.Laws.EncodedFormat.tcpRxSynReceivedAck (srcIp : Sys2Proof.Word32) (seg : Sys2Proof.TcpSeg) :
    Sys2Proof.Laws.EncodedFormat.Statement (.tcpRxSynReceivedAck srcIp seg) := rfl
theorem Sys2Proof.Laws.EncodedFormat.tcpRxEstablishedData (srcIp : Sys2Proof.Word32) (seg : Sys2Proof.TcpSeg) :
    Sys2Proof.Laws.EncodedFormat.Statement (.tcpRxEstablishedData srcIp seg) := rfl
theorem Sys2Proof.Laws.EncodedFormat.tcpRxEstablishedFin (srcIp : Sys2Proof.Word32) (seg : Sys2Proof.TcpSeg) :
    Sys2Proof.Laws.EncodedFormat.Statement (.tcpRxEstablishedFin srcIp seg) := rfl
theorem Sys2Proof.Laws.EncodedFormat.tcpRxFinWait1Ack (srcIp : Sys2Proof.Word32) (seg : Sys2Proof.TcpSeg) :
    Sys2Proof.Laws.EncodedFormat.Statement (.tcpRxFinWait1Ack srcIp seg) := rfl
theorem Sys2Proof.Laws.EncodedFormat.tcpRxFinWait2Fin (srcIp : Sys2Proof.Word32) (seg : Sys2Proof.TcpSeg) :
    Sys2Proof.Laws.EncodedFormat.Statement (.tcpRxFinWait2Fin srcIp seg) := rfl
theorem Sys2Proof.Laws.EncodedFormat.tcpRxLastAckAck (srcIp : Sys2Proof.Word32) (seg : Sys2Proof.TcpSeg) :
    Sys2Proof.Laws.EncodedFormat.Statement (.tcpRxLastAckAck srcIp seg) := rfl
theorem Sys2Proof.Laws.EncodedFormat.tcpRxTimeWaitAny (srcIp : Sys2Proof.Word32) (seg : Sys2Proof.TcpSeg) :
    Sys2Proof.Laws.EncodedFormat.Statement (.tcpRxTimeWaitAny srcIp seg) := rfl
theorem Sys2Proof.Laws.EncodedFormat.tcpRxNoAction (found : Sys2Proof.TcpState) (srcIp : Sys2Proof.Word32) (seg : Sys2Proof.TcpSeg) :
    Sys2Proof.Laws.EncodedFormat.Statement (.tcpRxNoAction found srcIp seg) := rfl
theorem Sys2Proof.Laws.EncodedFormat.ethSend (destMac : Sys2Proof.Mac) (ethertype : Sys2Proof.Word16) (payload : Sys2Proof.Octets) :
    Sys2Proof.Laws.EncodedFormat.Statement (.ethSend destMac ethertype payload) := rfl
theorem Sys2Proof.Laws.EncodedFormat.arpResolve (targetIp : Sys2Proof.Word32) :
    Sys2Proof.Laws.EncodedFormat.Statement (.arpResolve targetIp) := rfl
theorem Sys2Proof.Laws.EncodedFormat.arpRequest (targetIp : Sys2Proof.Word32) :
    Sys2Proof.Laws.EncodedFormat.Statement (.arpRequest targetIp) := rfl
theorem Sys2Proof.Laws.EncodedFormat.ipSend (destIp : Sys2Proof.Word32) (protocol : Sys2Proof.Octet) (payload : Sys2Proof.Octets) :
    Sys2Proof.Laws.EncodedFormat.Statement (.ipSend destIp protocol payload) := rfl
theorem Sys2Proof.Laws.EncodedFormat.icmpEcho (destIp : Sys2Proof.Word32) (ident : Sys2Proof.Word16) (sequence : Sys2Proof.Word16) :
    Sys2Proof.Laws.EncodedFormat.Statement (.icmpEcho destIp ident sequence) := rfl
theorem Sys2Proof.Laws.EncodedFormat.udpSend (destIp : Sys2Proof.Word32) (srcPort : Sys2Proof.Word16) (destPort : Sys2Proof.Word16) (payload : Sys2Proof.Octets) :
    Sys2Proof.Laws.EncodedFormat.Statement (.udpSend destIp srcPort destPort payload) := rfl
theorem Sys2Proof.Laws.EncodedFormat.dhcpDiscover :
    Sys2Proof.Laws.EncodedFormat.Statement (.dhcpDiscover) := rfl
theorem Sys2Proof.Laws.EncodedFormat.ipGetIp :
    Sys2Proof.Laws.EncodedFormat.Statement (.ipGetIp) := rfl
theorem Sys2Proof.Laws.EncodedFormat.ipGetGateway :
    Sys2Proof.Laws.EncodedFormat.Statement (.ipGetGateway) := rfl
theorem Sys2Proof.Laws.EncodedFormat.ipGetNetmask :
    Sys2Proof.Laws.EncodedFormat.Statement (.ipGetNetmask) := rfl
theorem Sys2Proof.Laws.EncodedFormat.ipSetIp (v : Sys2Proof.Word32) :
    Sys2Proof.Laws.EncodedFormat.Statement (.ipSetIp v) := rfl
theorem Sys2Proof.Laws.EncodedFormat.ipSetGateway (v : Sys2Proof.Word32) :
    Sys2Proof.Laws.EncodedFormat.Statement (.ipSetGateway v) := rfl
theorem Sys2Proof.Laws.EncodedFormat.ipSetNetmask (v : Sys2Proof.Word32) :
    Sys2Proof.Laws.EncodedFormat.Statement (.ipSetNetmask v) := rfl
theorem Sys2Proof.Laws.EncodedFormat.tcpListen (port : Sys2Proof.Word16) :
    Sys2Proof.Laws.EncodedFormat.Statement (.tcpListen port) := rfl
theorem Sys2Proof.Laws.EncodedFormat.tcpAccept (handle : Int) :
    Sys2Proof.Laws.EncodedFormat.Statement (.tcpAccept handle) := rfl
theorem Sys2Proof.Laws.EncodedFormat.tcpSend (handle : Int) (data : Sys2Proof.Octets) :
    Sys2Proof.Laws.EncodedFormat.Statement (.tcpSend handle data) := rfl
theorem Sys2Proof.Laws.EncodedFormat.tcpRecv (handle : Int) (maxlen : Nat) :
    Sys2Proof.Laws.EncodedFormat.Statement (.tcpRecv handle maxlen) := rfl
theorem Sys2Proof.Laws.EncodedFormat.tcpClose (handle : Int) :
    Sys2Proof.Laws.EncodedFormat.Statement (.tcpClose handle) := rfl
theorem Sys2Proof.Laws.EncodedFormat.tcpConnect (ip : Sys2Proof.Word32) (port : Sys2Proof.Word16) :
    Sys2Proof.Laws.EncodedFormat.Statement (.tcpConnect ip port) := rfl
end

