-- ==== Sys2Proof/Laws/Serialization.lean ====
section
/-! SUPPORT. The laws of the serialization primitives and of the encoded formats: what a big-endian field reads back, and what each field
of a built header reads as (spec/40_serialization.md R140 to R150, spec/30_encoding.md R91 to R105). -/

namespace Sys2Proof.Machine

/-- The two octets of a 16-bit value give the value back (R142). -/
theorem half_of_octets (v : Word16) : v.extractLsb' 8 8 ++ v.extractLsb' 0 8 = v := by
  refine BitVec.eq_of_getLsbD_eq fun i hi => ?_
  simp only [BitVec.getLsbD_append, BitVec.getLsbD_extractLsb']
  by_cases h : i < 8
  · simp [h]
  · simp [h, show i - 8 < 8 by omega, show 8 + (i - 8) = i by omega]

/-- The four octets of a 32-bit value give the value back (R143). -/
theorem word_of_octets (v : Word32) : v.extractLsb' 24 8 ++ v.extractLsb' 16 8 ++ v.extractLsb' 8 8 ++ v.extractLsb' 0 8 = v := by
  refine BitVec.eq_of_getLsbD_eq fun i hi => ?_
  simp only [BitVec.getLsbD_append, BitVec.getLsbD_extractLsb']
  by_cases h : i < 8
  · simp [h]
  by_cases h1 : i - 8 < 8
  · simp [h, h1, show 8 + (i - 8) = i by omega]
  by_cases h2 : i - 8 - 8 < 8
  · simp [h, h1, h2, show 16 + (i - 8 - 8) = i by omega]
  · simp [h, h1, h2, show i - 8 - 8 - 8 < 8 by omega, show 24 + (i - 8 - 8 - 8) = i by omega]

/-- The value of a joined 16-bit field, as R140 writes it. -/
theorem be16_toNat (b : Octets) (i : Nat) : (be16 b i).toNat = (octetAt b i).toNat * 256 + (octetAt b (i + 1)).toNat := by
  rw [be16, BitVec.toNat_append, ← Nat.shiftLeft_add_eq_or_of_lt (octetAt b (i + 1)).isLt, Nat.shiftLeft_eq]

@[simp] theorem length_put16 (v : Word16) : (put16 v).length = 2 := rfl
@[simp] theorem length_put32 (v : Word32) : (put32 v).length = 4 := rfl
@[simp] theorem length_putLength (n : Nat) : (putLength n).length = 2 := rfl
@[simp] theorem length_zeros (n : Nat) : (zeros n).length = n := List.length_replicate
@[simp] theorem length_macOctets (m : Mac) : m.octets.length = 6 := rfl

/-- A field that lies wholly inside a suffix is read at its offset in the suffix. -/
theorem octetAt_append_right (a b : Octets) (i : Nat) : octetAt (a ++ b) (a.length + i) = octetAt b i := by
  simp [octetAt, List.getD_eq_getElem?_getD, List.getElem?_append_right]

/-- A field that lies wholly inside a prefix is read there. -/
theorem octetAt_append_left {a : Octets} (b : Octets) {i : Nat} (h : i < a.length) : octetAt (a ++ b) i = octetAt a i := by
  simp [octetAt, List.getD_eq_getElem?_getD, List.getElem?_append_left h]

theorem be16_append_right (a b : Octets) (i : Nat) : be16 (a ++ b) (a.length + i) = be16 b i := by
  simp only [be16, Nat.add_assoc, octetAt_append_right]

theorem be32_append_right (a b : Octets) (i : Nat) : be32 (a ++ b) (a.length + i) = be32 b i := by
  simp only [be32, Nat.add_assoc, octetAt_append_right]

/-- A 16-bit field reads back what was put there, whatever stands before and after it (R140, R142). -/
theorem be16_put16_append (v : Word16) (b : Octets) : be16 (put16 v ++ b) 0 = v := half_of_octets v

/-- A 32-bit field reads back what was put there, whatever stands before and after it (R141, R143). -/
theorem be32_put32_append (v : Word32) (b : Octets) : be32 (put32 v ++ b) 0 = v := word_of_octets v

/-! ### The built headers, octet by octet -/

theorem be16_encodeFrame (t : Word16) (p : Octets) : be16 (encodeFrame t p) 12 = t := half_of_octets t
theorem drop_encodeFrame (t : Word16) (p : Octets) : (encodeFrame t p).drop 14 = p := rfl
theorem length_encodeFrame (t : Word16) (p : Octets) : (encodeFrame t p).length = 14 + p.length := by
  simp [encodeFrame]; omega

theorem length_encodeArp (op : Word16) (sha : Mac) (spa tpa : Word32) : (encodeArp op sha spa tpa).length = 28 := rfl
theorem be16_encodeArp (op : Word16) (sha : Mac) (spa tpa : Word32) : be16 (encodeArp op sha spa tpa) 6 = op := half_of_octets op
theorem macAt_encodeArp (op : Word16) (sha : Mac) (spa tpa : Word32) : macAt (encodeArp op sha spa tpa) 8 = sha := rfl
theorem spa_encodeArp (op : Word16) (sha : Mac) (spa tpa : Word32) : be32 (encodeArp op sha spa tpa) 14 = spa := word_of_octets spa
theorem tpa_encodeArp (op : Word16) (sha : Mac) (spa tpa : Word32) : be32 (encodeArp op sha spa tpa) 24 = tpa := word_of_octets tpa

theorem length_encodeIp (pr : Octet) (src : Word32) (p : Octets) : (encodeIp pr src p).length = 20 + p.length := by
  simp [encodeIp]; omega
theorem ipHeaderLength_encodeIp (pr : Octet) (src : Word32) (p : Octets) : ipHeaderLength (encodeIp pr src p) = 20 := by
  rw [ipHeaderLength, show octetAt (encodeIp pr src p) 0 = 0x45#8 from rfl]; rfl
theorem protocol_encodeIp (pr : Octet) (src : Word32) (p : Octets) : octetAt (encodeIp pr src p) 9 = pr := rfl
theorem src_encodeIp (pr : Octet) (src : Word32) (p : Octets) : be32 (encodeIp pr src p) 12 = src := word_of_octets src
theorem drop_encodeIp (pr : Octet) (src : Word32) (p : Octets) : (encodeIp pr src p).drop 20 = p := rfl

theorem length_encodeIcmp (t : Octet) (q : Word16) (n : Nat) (h : 8 ≤ n) : (encodeIcmp t q n).length = n := by
  simp [encodeIcmp]; omega
theorem type_encodeIcmp (t : Octet) (q : Word16) (n : Nat) : octetAt (encodeIcmp t q n) 0 = t := rfl
theorem sequence_encodeIcmp (t : Octet) (q : Word16) (n : Nat) : be16 (encodeIcmp t q n) 6 = q := half_of_octets q

theorem length_encodeUdp (port : Word16) (p : Octets) : (encodeUdp port p).length = 8 + p.length := by
  simp [encodeUdp]; omega
theorem port_encodeUdp (port : Word16) (p : Octets) : be16 (encodeUdp port p) 2 = port := half_of_octets port
theorem drop_encodeUdp (port : Word16) (p : Octets) : (encodeUdp port p).drop 8 = p := rfl

theorem length_encodeSegment (seg : TcpSeg) : (encodeSegment seg).length = 20 + seg.data.length := by
  simp [encodeSegment]; omega
theorem tcpHeaderLength_encodeSegment (seg : TcpSeg) : tcpHeaderLength (encodeSegment seg) = 20 := by
  rw [tcpHeaderLength, show octetAt (encodeSegment seg) 12 = 0x50#8 from rfl]; rfl
theorem drop_encodeSegment (seg : TcpSeg) : (encodeSegment seg).drop 20 = seg.data := rfl

/-! ### The checksum engine -/

/-- "fold the carries back in" makes a sum of at least 2^16 smaller, so a fuel of the sum is enough: the result fits 16 bits (R150). -/
theorem foldCarries_lt (fuel s : Nat) (h : s ≤ fuel) : foldCarries fuel s < 65536 := by
  induction fuel generalizing s with
  | zero => simp only [foldCarries]; omega
  | succ fuel ih =>
    simp only [foldCarries]
    split
    · assumption
    · exact ih _ (by omega)

/-- Folding keeps the sum modulo 65535 (R150). -/
theorem foldCarries_mod (fuel s : Nat) : foldCarries fuel s % 65535 = s % 65535 := by
  induction fuel generalizing s with
  | zero => rfl
  | succ fuel ih =>
    simp only [foldCarries]
    split
    · rfl
    · rw [ih]; omega

/-- Folding makes a positive sum no 0 (R151 d). -/
theorem foldCarries_pos (fuel s : Nat) (h : 0 < s) : 0 < foldCarries fuel s := by
  induction fuel generalizing s with
  | zero => exact h
  | succ fuel ih =>
    simp only [foldCarries]
    split
    · exact h
    · exact ih _ (by omega)

/-- The words of a string whose first part has even length (R150). -/
theorem wordSum_append (a b : Octets) (h : a.length % 2 = 0) : wordSum (a ++ b) = wordSum a + wordSum b := by
  induction a using wordSum.induct with
  | case1 => simp [wordSum]
  | case2 x => simp at h
  | case3 x y rest ih =>
    simp only [List.cons_append, wordSum]
    rw [ih (by simp at h; omega)]
    omega

end Sys2Proof.Machine
end

