-- ==== Sys2Proof/Tests/Slice0.lean ====
section
/-! SUPPORT. Tests: ill-formed terms the well-formedness check refuses, words written out from the encoding tables of spec/ and what they
decode to, worked examples of spec/95_test_vectors.md and spec/96_test_vectors_tcp.md, and for each statement with hypotheses a state
that meets them. -/

namespace Sys2Proof.Tests

open Sys2Proof Sys2Proof.Machine

set_option Elab.async false

/-! ### Well-formedness: one ill-formed term for each check -/

/-- A segment from port 40000 to port 80 with these flags and data, sequence number 0x2000. -/
def segWith (flags : Octet) (data : Octets) : TcpSeg := ⟨40000#16, 80#16, 0x2000#32, 0#32, flags, 0x2000#16, data⟩

theorem test_ill_unknown_type_is_known : Instr.wellFormed (.ethRxUnknown 0x0608#16) = false := by decide
theorem test_ill_other_opcode_is_request : Instr.wellFormed (.arpRxOther 1#16 zeroMac 0 0) = false := by decide
theorem test_ill_unknown_protocol_is_tcp : Instr.wellFormed (.ipRxUnknown 6#8) = false := by decide
theorem test_ill_echo_reply_of_seven_octets : Instr.wellFormed (.icmpRxEchoReply 0 7 0) = false := by decide
theorem test_ill_other_icmp_type_is_reply : Instr.wellFormed (.icmpRxOther 0#8) = false := by decide
theorem test_ill_other_port_is_dhcp : Instr.wellFormed (.udpRxOther 68#16) = false := by decide
theorem test_ill_mask_option_too_long : Instr.wellFormed (.dhcpOptSubnetMask (zeros 256)) = false := by simp [Instr.wellFormed]
theorem test_ill_router_option_too_long : Instr.wellFormed (.dhcpOptRouter (zeros 256)) = false := by simp [Instr.wellFormed]
theorem test_ill_other_option_is_known : Instr.wellFormed (.dhcpOptOther 255#8 []) = false := by decide
theorem test_ill_other_option_too_long : Instr.wellFormed (.dhcpOptOther 53#8 (zeros 256)) = false := by simp [Instr.wellFormed]
theorem test_ill_noconn_syn_without_syn : Instr.wellFormed (.tcpRxNoconnSyn 0 (segWith 0x10 []) 0) = false := by decide
theorem test_ill_noconn_other_with_syn : Instr.wellFormed (.tcpRxNoconnOther 0 (segWith 0x02 [])) = false := by decide
theorem test_ill_listen_syn_without_syn : Instr.wellFormed (.tcpRxListenSyn 0 (segWith 0x10 [])) = false := by decide
theorem test_ill_synsent_without_syn : Instr.wellFormed (.tcpRxSynSentSynack 0 (segWith 0x10 [])) = false := by decide
theorem test_ill_synsent_without_ack : Instr.wellFormed (.tcpRxSynSentSynack 0 (segWith 0x02 [])) = false := by decide
theorem test_ill_synreceived_without_ack : Instr.wellFormed (.tcpRxSynReceivedAck 0 (segWith 0x02 [])) = false := by decide
theorem test_ill_data_arm_without_data : Instr.wellFormed (.tcpRxEstablishedData 0 (segWith 0x11 [])) = false := by decide
theorem test_ill_fin_arm_with_data : Instr.wellFormed (.tcpRxEstablishedFin 0 (segWith 0x11 [0x61])) = false := by decide
theorem test_ill_fin_arm_without_fin : Instr.wellFormed (.tcpRxEstablishedFin 0 (segWith 0x10 [])) = false := by decide
theorem test_ill_finwait1_without_ack : Instr.wellFormed (.tcpRxFinWait1Ack 0 (segWith 0x01 [])) = false := by decide
theorem test_ill_finwait2_without_fin : Instr.wellFormed (.tcpRxFinWait2Fin 0 (segWith 0x10 [])) = false := by decide
theorem test_ill_lastack_without_ack : Instr.wellFormed (.tcpRxLastAckAck 0 (segWith 0x01 [])) = false := by decide
theorem test_ill_no_action_in_time_wait : Instr.wellFormed (.tcpRxNoAction .timeWait 0 (segWith 0x00 [])) = false := by decide
theorem test_ill_no_action_on_data : Instr.wellFormed (.tcpRxNoAction .established 0 (segWith 0x10 [0x61])) = false := by decide
theorem test_ill_ip_payload_too_long : Instr.wellFormed (.ipSend 0 0 (zeros 65516)) = false := by
  simp [Instr.wellFormed, maxIpPayload]
theorem test_ill_udp_payload_too_long : Instr.wellFormed (.udpSend 0 0 0 (zeros 65508)) = false := by
  simp [Instr.wellFormed, maxUdpPayload]

/-! ### Decoding: words written out from spec/30_encoding.md. The key octets stand in binary -/

/-- R91, R92: type octets 08 00. -/
theorem test_decode_ethRxIpv4 : decode (.ethertype [0x52, 0x54, 0x00, 0x12, 0x34, 0x56, 0x02, 0x00, 0x00, 0x00, 0x00, 0x05, 0b00001000, 0b00000000, 0xaa, 0xbb] 3) = .ok (.ethRxIpv4 [0xaa, 0xbb] 3) := rfl
/-- R92: type octets 00 08, an empty payload. -/
theorem test_decode_ethRxIpv4Swapped : decode (.ethertype [0x52, 0x54, 0x00, 0x12, 0x34, 0x56, 0x02, 0x00, 0x00, 0x00, 0x00, 0x05, 0b00000000, 0b00001000] 3) = .ok (.ethRxIpv4Swapped [] 3) := rfl
/-- R92: type octets 08 06. -/
theorem test_decode_ethRxArp : decode (.ethertype [0x52, 0x54, 0x00, 0x12, 0x34, 0x56, 0x02, 0x00, 0x00, 0x00, 0x00, 0x05, 0b00001000, 0b00000110, 0xaa] 3) = .ok (.ethRxArp [0xaa]) := rfl
/-- R92: type octets 06 08. -/
theorem test_decode_ethRxArpSwapped : decode (.ethertype [0x52, 0x54, 0x00, 0x12, 0x34, 0x56, 0x02, 0x00, 0x00, 0x00, 0x00, 0x05, 0b00000110, 0b00001000, 0xaa] 3) = .ok (.ethRxArpSwapped [0xaa]) := rfl
/-- R92, vector E3: type 0x86dd. -/
theorem test_decode_ethRxUnknown : decode (.ethertype [0x52, 0x54, 0x00, 0x12, 0x34, 0x56, 0x02, 0x00, 0x00, 0x00, 0x00, 0x05, 0b10000110, 0b11011101, 0, 0, 0, 0] 3) = .ok (.ethRxUnknown 0x86dd#16) := rfl
/-- R93, R95, vector E5: a request from 02:00:00:00:00:05 / 10.0.0.5 for 10.0.0.42. -/
theorem test_decode_arpRxRequest : decode (.arpOpcode [0x00, 0x01, 0x08, 0x00, 0x06, 0x04, 0b00000000, 0b00000001, 0x02, 0x00, 0x00, 0x00, 0x00, 0x05, 0x0a, 0x00, 0x00, 0x05,
    0x00, 0x00, 0x00, 0x00, 0x00, 0x00, 0x0a, 0x00, 0x00, 0x2a]) = .ok (.arpRxRequest ⟨0x02, 0x00, 0x00, 0x00, 0x00, 0x05⟩ 0x0a000005#32 0x0a00002a#32) := rfl
/-- R95, vector A4: a reply. -/
theorem test_decode_arpRxOther : decode (.arpOpcode [0x00, 0x01, 0x08, 0x00, 0x06, 0x04, 0b00000000, 0b00000010, 0x02, 0x00, 0x00, 0x00, 0x00, 0x05, 0x0a, 0x00, 0x00, 0x05,
    0x52, 0x54, 0x00, 0x12, 0x34, 0x56, 0x0a, 0x00, 0x00, 0x2a]) = .ok (.arpRxOther 2#16 ⟨0x02, 0x00, 0x00, 0x00, 0x00, 0x05⟩ 0x0a000005#32 0x0a00002a#32) := rfl
/-- R96 to R98, vector I4: version 6, IHL 0, so the payload starts at octet 0. -/
theorem test_decode_ipRxIcmp : decode (.ipProtocol [0b01100000, 0x00, 0x00, 0x1c, 0x00, 0x00, 0x00, 0x00, 0x40, 0b00000001, 0x66, 0xb3, 0x0a, 0x00, 0x00, 0x05,
    0x0a, 0x00, 0x00, 0x2a] 7) = .ok (.ipRxIcmp 0x0a000005#32 [0x60, 0x00, 0x00, 0x1c, 0x00, 0x00, 0x00, 0x00, 0x40, 0x01, 0x66, 0xb3, 0x0a, 0x00, 0x00, 0x05,
    0x0a, 0x00, 0x00, 0x2a]) := rfl
/-- R98: protocol 6. -/
theorem test_decode_ipRxTcp : decode (.ipProtocol [0b01000101, 0x00, 0x00, 0x1c, 0x00, 0x00, 0x00, 0x00, 0x40, 0b00000110, 0x66, 0xb3, 0x0a, 0x00, 0x00, 0x05,
    0x0a, 0x00, 0x00, 0x2a, 0xaa] 7) = .ok (.ipRxTcp 0x0a000005#32 [0xaa] 7) := rfl
/-- R98: protocol 17, IHL 6. -/
theorem test_decode_ipRxUdp : decode (.ipProtocol [0b01000110, 0x00, 0x00, 0x1c, 0x00, 0x00, 0x00, 0x00, 0x40, 0b00010001, 0x66, 0xb3, 0x0a, 0x00, 0x00, 0x05,
    0x0a, 0x00, 0x00, 0x2a, 0x01, 0x01, 0x01, 0x00, 0xaa] 7) = .ok (.ipRxUdp 0x0a000005#32 [0xaa]) := rfl
/-- R98, vector I3: protocol 2. -/
theorem test_decode_ipRxUnknown : decode (.ipProtocol [0b01000101, 0x00, 0x00, 0x1c, 0x00, 0x00, 0x00, 0x00, 0x40, 0b00000010, 0x66, 0xb3, 0x0a, 0x00, 0x00, 0x05,
    0x0a, 0x00, 0x00, 0x2a] 7) = .ok (.ipRxUnknown 2#8) := rfl
/-- R99, R100: type 0, nine octets, sequence 0x1234. -/
theorem test_decode_icmpRxEchoReply : decode (.icmpType 5 [0b00000000, 0xff, 0x55, 0x54, 0x00, 0x01, 0x12, 0x34, 0x61]) = .ok (.icmpRxEchoReply 5 9 0x1234#16) := rfl
/-- R100: type 8. -/
theorem test_decode_icmpRxOther : decode (.icmpType 5 [0b00001000, 0x00, 0x4d, 0x54, 0x00, 0x01, 0x00, 0x07]) = .ok (.icmpRxOther 8#8) := rfl
/-- R101, R102: source port 67, destination port 68. -/
theorem test_decode_udpRxDhcpClient : decode (.udpDport 5 [0x00, 0x43, 0b00000000, 0b01000100, 0x01, 0x05, 0x00, 0x00, 0xaa]) = .ok (.udpRxDhcpClient [0xaa]) := rfl
/-- R102: destination port 53. -/
theorem test_decode_udpRxOther : decode (.udpDport 5 [0x00, 0x44, 0b00000000, 0b00110101, 0x00, 0x08, 0x00, 0x00]) = .ok (.udpRxOther 53#16) := rfl
/-- R109, R110. -/
theorem test_decode_dhcpOptPad : decode (.dhcpOption [0b00000000, 0x01, 0x04]) = .ok (.dhcpOptPad) := rfl
/-- R110. -/
theorem test_decode_dhcpOptEnd : decode (.dhcpOption [0b11111111, 0x01, 0x04]) = .ok (.dhcpOptEnd) := rfl
/-- R110, the source's stream. -/
theorem test_decode_dhcpOptSubnetMask : decode (.dhcpOption [0b00000001, 0x04, 255, 255, 255, 0, 3, 4, 10, 0, 0, 1, 255]) = .ok (.dhcpOptSubnetMask [255, 255, 255, 0]) := rfl
/-- R110: eight octets, two routers. -/
theorem test_decode_dhcpOptRouter : decode (.dhcpOption [0b00000011, 0x08, 10, 0, 0, 1, 10, 0, 0, 2]) = .ok (.dhcpOptRouter [10, 0, 0, 1, 10, 0, 0, 2]) := rfl
/-- R110: option 53. -/
theorem test_decode_dhcpOptOther : decode (.dhcpOption [0b00110101, 0x01, 0x02, 0xff]) = .ok (.dhcpOptOther 53#8 [2]) := rfl

/-- The octets of a segment from port 40000 to port 80, sequence number 0x2000, window 0x2000 (R103): data offset octet, flags octet, then
what follows the 20-octet header. -/
def segOctets (offset flags : Octet) (rest : Octets) : Octets :=
  [0x9c, 0x40, 0x00, 0x50, 0x00, 0x00, 0x20, 0x00, 0x00, 0x00, 0x00, 0x00, offset, flags, 0x20, 0x00, 0xbf, 0x23, 0x00, 0x00] ++ rest

/-- R107: no record, `SYN|ACK`; data offset 6 skips four octets of options (vector T3). -/
theorem test_decode_tcpRxNoconnSyn : decode (.tcpStateFlags none 5 (segOctets 0b01100000 0b00010010 [0x02, 0x04, 0x05, 0xb4]) 7) = .ok (.tcpRxNoconnSyn 5 (segWith 0x12 []) 7) := rfl
/-- R107: no record, ACK. -/
theorem test_decode_tcpRxNoconnOther : decode (.tcpStateFlags none 5 (segOctets 0b01010000 0b00010000 []) 7) = .ok (.tcpRxNoconnOther 5 (segWith 0x10 [])) := rfl
/-- R107: LISTEN, SYN. -/
theorem test_decode_tcpRxListenSyn : decode (.tcpStateFlags (some .listen) 5 (segOctets 0b01010000 0b00000010 []) 7) = .ok (.tcpRxListenSyn 5 (segWith 0x02 [])) := rfl
/-- R107: SYN_SENT, `SYN|ACK`. -/
theorem test_decode_tcpRxSynSentSynack : decode (.tcpStateFlags (some .synSent) 5 (segOctets 0b01010000 0b00010010 []) 7) = .ok (.tcpRxSynSentSynack 5 (segWith 0x12 [])) := rfl
/-- R107: SYN_RECEIVED, ACK. -/
theorem test_decode_tcpRxSynReceivedAck : decode (.tcpStateFlags (some .synReceived) 5 (segOctets 0b01010000 0b00010000 []) 7) = .ok (.tcpRxSynReceivedAck 5 (segWith 0x10 [])) := rfl
/-- R107: ESTABLISHED, data; the data row comes before the FIN row. -/
theorem test_decode_tcpRxEstablishedData : decode (.tcpStateFlags (some .established) 5 (segOctets 0b01010000 0b00011001 [0x7a, 0x7a]) 7) = .ok (.tcpRxEstablishedData 5 (segWith 0x19 [0x7a, 0x7a])) := rfl
/-- R107: ESTABLISHED, FIN, no data. -/
theorem test_decode_tcpRxEstablishedFin : decode (.tcpStateFlags (some .established) 5 (segOctets 0b01010000 0b00010001 []) 7) = .ok (.tcpRxEstablishedFin 5 (segWith 0x11 [])) := rfl
/-- R107: FIN_WAIT_1, `FIN|ACK`. -/
theorem test_decode_tcpRxFinWait1Ack : decode (.tcpStateFlags (some .finWait1) 5 (segOctets 0b01010000 0b00010001 []) 7) = .ok (.tcpRxFinWait1Ack 5 (segWith 0x11 [])) := rfl
/-- R107: FIN_WAIT_2, FIN. -/
theorem test_decode_tcpRxFinWait2Fin : decode (.tcpStateFlags (some .finWait2) 5 (segOctets 0b01010000 0b00000001 []) 7) = .ok (.tcpRxFinWait2Fin 5 (segWith 0x01 [])) := rfl
/-- R107: LAST_ACK, ACK. -/
theorem test_decode_tcpRxLastAckAck : decode (.tcpStateFlags (some .lastAck) 5 (segOctets 0b01010000 0b00010000 []) 7) = .ok (.tcpRxLastAckAck 5 (segWith 0x10 [])) := rfl
/-- R107: TIME_WAIT, no flag at all. -/
theorem test_decode_tcpRxTimeWaitAny : decode (.tcpStateFlags (some .timeWait) 5 (segOctets 0b01010000 0b00000000 []) 7) = .ok (.tcpRxTimeWaitAny 5 (segWith 0x00 [])) := rfl
/-- R107: SYN_RECEIVED, a SYN again (vector T1). -/
theorem test_decode_tcpRxNoAction : decode (.tcpStateFlags (some .synReceived) 5 (segOctets 0b01010000 0b00000010 []) 7) = .ok (.tcpRxNoAction .synReceived 5 (segWith 0x02 [])) := rfl

/-! R111: the command codes 0x01 to 0x07, 0x10 to 0x15, 0x20 to 0x25. -/

theorem test_decode_ethSend : decode (.cmd 0b00000001 [.mac zeroMac, .half 0x88b5, .octets [0xaa]] 9) = .ok (.ethSend zeroMac 0x88b5 [0xaa]) := rfl
theorem test_decode_arpResolve : decode (.cmd 0b00000010 [.addr 7] 9) = .ok (.arpResolve 7) := rfl
theorem test_decode_arpRequest : decode (.cmd 0b00000011 [.addr 7] 9) = .ok (.arpRequest 7) := rfl
theorem test_decode_ipSend : decode (.cmd 0b00000100 [.addr 7, .octet 17, .octets []] 9) = .ok (.ipSend 7 17 []) := rfl
theorem test_decode_icmpEcho : decode (.cmd 0b00000101 [.addr 7, .half 1, .half 2] 9) = .ok (.icmpEcho 7 1 2) := rfl
theorem test_decode_udpSend : decode (.cmd 0b00000110 [.addr 7, .half 1234, .half 53, .octets [0xde]] 9) = .ok (.udpSend 7 1234 53 [0xde]) := rfl
theorem test_decode_dhcpDiscover : decode (.cmd 0b00000111 [] 9) = .ok (.dhcpDiscover) := rfl
theorem test_decode_ipGetIp : decode (.cmd 0b00010000 [] 9) = .ok (.ipGetIp) := rfl
theorem test_decode_ipGetGateway : decode (.cmd 0b00010001 [] 9) = .ok (.ipGetGateway) := rfl
theorem test_decode_ipGetNetmask : decode (.cmd 0b00010010 [] 9) = .ok (.ipGetNetmask) := rfl
theorem test_decode_ipSetIp : decode (.cmd 0b00010011 [.addr 7] 9) = .ok (.ipSetIp 7) := rfl
theorem test_decode_ipSetGateway : decode (.cmd 0b00010100 [.addr 7] 9) = .ok (.ipSetGateway 7) := rfl
theorem test_decode_ipSetNetmask : decode (.cmd 0b00010101 [.addr 7] 9) = .ok (.ipSetNetmask 7) := rfl
theorem test_decode_tcpListen : decode (.cmd 0b00100000 [.half 80] 9) = .ok (.tcpListen 80) := rfl
theorem test_decode_tcpAccept : decode (.cmd 0b00100001 [.handle 2] 9) = .ok (.tcpAccept 2) := rfl
theorem test_decode_tcpSend : decode (.cmd 0b00100010 [.handle 2, .octets [0x61]] 9) = .ok (.tcpSend 2 [0x61]) := rfl
theorem test_decode_tcpRecv : decode (.cmd 0b00100011 [.handle 2, .size 9] 9) = .ok (.tcpRecv 2 9) := rfl
theorem test_decode_tcpClose : decode (.cmd 0b00100100 [.handle (-1)] 9) = .ok (.tcpClose (-1)) := rfl
theorem test_decode_tcpConnect : decode (.cmd 0b00100101 [.addr 7, .half 80] 9) = .ok (.tcpConnect 7 80) := rfl
/-- R111: a code that is not in the table, and operands of another shape. -/
theorem test_reject_code : decode (.cmd 0b00001000 [] 9) = .error .unknownCommandCode := rfl
theorem test_reject_operands : decode (.cmd 0b00100001 [.half 80] 9) = .error .wrongOperands := rfl
/-- R382: one octet short of each header. -/
theorem test_short_frame : decode (.ethertype (zeros 13) 0) = .error .malformedPacket := rfl
theorem test_short_arp : decode (.arpOpcode (zeros 27)) = .error .malformedPacket := rfl
theorem test_short_ip : decode (.ipProtocol (0x4f :: zeros 58) 0) = .error .malformedPacket := rfl
theorem test_short_icmp : decode (.icmpType 0 (zeros 7)) = .error .malformedPacket := rfl
theorem test_short_udp : decode (.udpDport 0 (zeros 7)) = .error .malformedPacket := rfl
theorem test_short_tcp : decode (.tcpStateFlags none 0 (segOctets 0b01100000 0x02 [0, 0, 0]) 0) = .error .malformedPacket := rfl

/-! ### Worked examples of the spec: the parameters have the example values of R10, every `TxAlloc` draw is true -/

/-- The example values of spec/00_scope.md R10, with a ring of 16 octets, a table of one record and `ISN` 0x100 in every draw (vectors T2,
T4). -/
def exampleConfig : Config where
  ownMac := ⟨0x52, 0x54, 0x00, 0x12, 0x34, 0x56⟩
  rxbufCap := 16
  rxbufCap_pos := by decide
  maxConn := some 1
  maxConn_pos := by intro n h; cases h; decide
  tcpWindow := 4096#16
  sendWindowInit := 8
  sendWindowInit_le := by decide
  ticksPerSecond := 1000
  ticksPerSecond_pos := by decide
  rtoInit := 0
  icmpPayload := ((List.range 23) ++ (List.range 9)).map fun i => BitVec.ofNat 8 (97 + i)
  icmpPayload_length := by decide
  icmpPayload_letters := by decide
  dhcpXid := 0x12345678#32
  dhcpFlags := 0
  dhcpPrl := [1, 3]
  dhcpPrl_pos := by decide
  dhcpPrl_le := by decide
  dhcpPollBudget := 0
  isn := fun _ => 0x100#32
  txAlloc := fun _ _ => true

/-- "Configured, peer cached" (spec/95_test_vectors.md). -/
def peerCached : State :=
  { State.reset with
    ownIp := 0x0a00002a#32, gatewayIp := 0x0a000001#32, netmask := 0xffffff00#32
    arpCache := ⟨0x0a000005#32, ⟨0x02, 0x00, 0x00, 0x00, 0x00, 0x05⟩⟩ }

/-- The record of vector T4: SYN from 10.0.0.5 port 40000 to port 80, `seq` 0x2000, `ISN` 0x100, then an ACK. -/
def exampleConn (st : TcpState) : Conn :=
  { newConn exampleConfig 0 0x0a00002a#32 0x0a000005#32 80#16 40000#16 st 0x101#32 with ackNumber := 0x2001#32 }

/-- A state with that record alone. -/
def oneConn (c : Conn) : State := { peerCached with nextHandle := 1, connTable := [c] }

/-- section 2. -/
theorem test_checksum_odd : checksum [0x01, 0x02, 0x03] = 0xfbfd#16 := by decide +kernel
/-- R150. -/
theorem test_checksum_folds : checksum [0x00, 0x01, 0xf2, 0x03, 0xf4, 0xf5, 0xf6, 0xf7] = 0x220d#16 := by decide +kernel
/-- R150. -/
theorem test_checksum_empty : checksum [] = 0xffff#16 := by decide +kernel
/-- section 2, at an odd offset. -/
theorem test_be32 : be32 [0xff, 0x0a, 0x00, 0x00, 0x2a] 1 = 0x0a00002a#32 := by decide +kernel
/-- section 2. -/
theorem test_put16 : put16 0x1234#16 = [0x12, 0x34] := by decide +kernel
/-- section 2. -/
theorem test_put32 : put32 0x63825363#32 = [0x63, 0x82, 0x53, 0x63] := by decide +kernel
/-- R146. -/
theorem test_swap16 : swap16 0x0806#16 = 0x0608#16 := by decide +kernel
/-- section 2. -/
theorem test_walk_pads : tlvWalk [0, 0, 3, 8, 10, 0, 0, 1, 10, 0, 0, 2, 1, 4, 255, 255, 0, 0] 0
      = [(3, 8, [10, 0, 0, 1, 10, 0, 0, 2]), (1, 4, [255, 255, 0, 0])] := by decide +kernel
/-- section 2. -/
theorem test_walk_end : tlvWalk [53, 1, 2, 255, 1, 4, 255, 255, 255, 0] 0 = [(53, 1, [2])] := by decide +kernel
/-- section 2. -/
theorem test_walk_cut_short : tlvWalk [3, 4, 10, 0, 0] 0 = [] := by decide +kernel
/-- section 2. -/
theorem test_walk_zero_length : tlvWalk [12, 0, 1, 4, 255, 0, 0, 0] 0 = [(12, 0, []), (1, 4, [255, 0, 0, 0])] := by decide +kernel
/-- R219. -/
theorem test_ip_header : buildIpHeader 0x0a00002a#32 0x0a000005#32 6 20
      = [0x45, 0x00, 0x00, 0x28, 0x00, 0x00, 0x00, 0x00, 0x40, 0x06, 0x66, 0xa2, 0x0a, 0x00, 0x00, 0x2a, 0x0a, 0x00, 0x00, 0x05] := by decide +kernel
/-- R240. -/
theorem test_echo_checksum : (buildEcho exampleConfig 1 7).take 10 = [0x08, 0x00, 0x4d, 0x54, 0x00, 0x01, 0x00, 0x07, 0x61, 0x62] := by decide +kernel
/-- R299. -/
theorem test_segment : buildSegment exampleConfig 0x0a00002a#32 { exampleConn .listen with seqNumber := 0x1000#32 } 0x12 []
      = [0x00, 0x50, 0x9c, 0x40, 0x00, 0x00, 0x10, 0x00, 0x00, 0x00, 0x20, 0x01, 0x50, 0x12, 0x10, 0x00, 0xbf, 0x12, 0x00, 0x00] := by decide +kernel
/-- R260. -/
theorem test_discover : ((buildDiscover exampleConfig).length, (buildDiscover exampleConfig).drop 236)
      = (248, [0x63, 0x82, 0x53, 0x63, 0x35, 0x01, 0x01, 0x37, 0x02, 0x01, 0x03, 0xff]) := by decide +kernel
/-- Vector E7. -/
theorem test_ethSend :
    (ethSendCommand exampleConfig ⟨0x02, 0, 0, 0, 0, 0x05⟩ 0x88b5 [0xaa] peerCached).effects
      = [.tx [0x02, 0x00, 0x00, 0x00, 0x00, 0x05, 0x52, 0x54, 0x00, 0x12, 0x34, 0x56, 0x88, 0xb5, 0xaa]] := by decide +kernel
/-- Vector E8: the draw is false. -/
theorem test_ethSend_no_buffer :
    (ethSendCommand { exampleConfig with txAlloc := fun _ _ => false } ⟨0x02, 0, 0, 0, 0, 0x05⟩ 0x88b5 [0xaa] peerCached).effects = [] := by decide +kernel
/-- Vector E5: the reply frame. -/
theorem test_arpRx_request :
    (arpRxRequest exampleConfig ⟨0x02, 0, 0, 0, 0, 0x05⟩ 0x0a000005#32 0x0a00002a#32 peerCached).effects
      = [.tx ([0x02, 0x00, 0x00, 0x00, 0x00, 0x05, 0x52, 0x54, 0x00, 0x12, 0x34, 0x56, 0x08, 0x06, 0x00, 0x01, 0x08, 0x00, 0x06, 0x04, 0x00, 0x02, 0x52, 0x54, 0x00, 0x12, 0x34, 0x56, 0x0a, 0x00, 0x00, 0x2a, 0x02, 0x00, 0x00, 0x00, 0x00, 0x05, 0x0a, 0x00, 0x00, 0x05] ++ zeros 18)] := by decide +kernel
/-- Vector A6: opcode 0x0100 is learned and not answered. -/
theorem test_arpRx_other :
    ((arpRxOther 0x0100 ⟨0x02, 0, 0, 0, 0, 0x09⟩ 0x0a000009#32 0x0a00002a#32 peerCached).arpCache,
      (arpRxOther 0x0100 ⟨0x02, 0, 0, 0, 0, 0x09⟩ 0x0a000009#32 0x0a00002a#32 peerCached).effects)
      = (⟨0x0a000009#32, ⟨0x02, 0, 0, 0, 0, 0x09⟩⟩, []) := by decide +kernel
/-- Vector A5. -/
theorem test_arpRx_not_for_us :
    (arpRxRequest exampleConfig ⟨0x02, 0, 0, 0, 0, 0x01⟩ 0x0a000001#32 0x0a000007#32 peerCached)
      = { peerCached with results := [.rx (some .arpNotForUs)] } := by decide +kernel
/-- Vector A1: at reset 0.0.0.0 is a hit. -/
theorem test_arpResolve_reset :
    (arpResolveCommand exampleConfig 0 State.reset).results = [.ret (.mac zeroMac)] := by decide +kernel
/-- Vector A2. -/
theorem test_arpResolve_miss :
    (arpResolveCommand exampleConfig 0x0a000005#32 State.reset).effects
      = [.tx ([0xff, 0xff, 0xff, 0xff, 0xff, 0xff, 0x52, 0x54, 0x00, 0x12, 0x34, 0x56, 0x08, 0x06, 0x00, 0x01, 0x08, 0x00, 0x06, 0x04, 0x00, 0x01, 0x52, 0x54, 0x00, 0x12, 0x34, 0x56, 0x00, 0x00, 0x00, 0x00, 0x00, 0x00, 0x00, 0x00, 0x00, 0x00, 0x0a, 0x00, 0x00, 0x05] ++ zeros 18)] := by decide +kernel
/-- Vector I8: off the subnet, the gateway is not cached. -/
theorem test_ipSend_gateway :
    (ipSend exampleConfig 0x08080808#32 253 [0xc0, 0xde] peerCached).effects
      = [.tx ([0xff, 0xff, 0xff, 0xff, 0xff, 0xff, 0x52, 0x54, 0x00, 0x12, 0x34, 0x56, 0x08, 0x06, 0x00, 0x01, 0x08, 0x00, 0x06, 0x04, 0x00, 0x01, 0x52, 0x54, 0x00, 0x12, 0x34, 0x56, 0x0a, 0x00, 0x00, 0x2a, 0x00, 0x00, 0x00, 0x00, 0x00, 0x00, 0x0a, 0x00, 0x00, 0x01] ++ zeros 18),
        .tx [0xff, 0xff, 0xff, 0xff, 0xff, 0xff, 0x52, 0x54, 0x00, 0x12, 0x34, 0x56, 0x08, 0x00, 0x45, 0x00, 0x00, 0x16, 0x00, 0x00, 0x00, 0x00, 0x40, 0xfd, 0x5f, 0xb2, 0x0a, 0x00, 0x00, 0x2a, 0x08, 0x08, 0x08, 0x08, 0xc0, 0xde]] := by decide +kernel
/-- R252. -/
theorem test_udpSend :
    (udpSend exampleConfig 0x0a000005#32 1234 53 [0xde, 0xad] peerCached).effects
      = [.tx [0x02, 0x00, 0x00, 0x00, 0x00, 0x05, 0x52, 0x54, 0x00, 0x12, 0x34, 0x56, 0x08, 0x00, 0x45, 0x00, 0x00, 0x1e, 0x00, 0x00, 0x00, 0x00, 0x40, 0x11, 0x66, 0xa1, 0x0a, 0x00, 0x00, 0x2a, 0x0a, 0x00, 0x00, 0x05, 0x04, 0xd2, 0x00, 0x35, 0x00, 0x0a, 0x00, 0x00, 0xde, 0xad]] := by decide +kernel
/-- Vector I6: an 8-octet reply. -/
theorem test_icmpRx :
    (icmpRx 0x0a000005#32 [0x00, 0x00, 0xff, 0xf6, 0x00, 0x00, 0x00, 0x09] peerCached)
      = { peerCached with effects := [.log .info (.icmpEchoReply 0x0a000005#32 8 9)], results := [.rx none] } := by decide +kernel
/-- Source property S6, after reset. -/
theorem test_dhcpRx :
    (dhcpRx exampleConfig (zeros 16 ++ [10, 0, 0, 42] ++ zeros 8 ++ exampleConfig.ownMac.octets ++ zeros 206
        ++ [1, 4, 255, 255, 255, 0, 3, 4, 10, 0, 0, 1, 255]) State.reset)
      = { State.reset with
        ownIp := 0x0a00002a#32, netmask := 0xffffff00#32, gatewayIp := 0x0a000001#32, results := [.rx none] } := by decide +kernel
/-- R265: `yiaddr` is 0. -/
theorem test_dhcpRx_no_address :
    (dhcpRx exampleConfig (zeros 28 ++ exampleConfig.ownMac.octets ++ zeros 202) State.reset)
      = { State.reset with results := [.rx (some .dhcpNoAddress)] } := by decide +kernel
/-- Vector T2: a record in SYN_RECEIVED with `seq_number` 0x101 and `ack_number` 0x2001. -/
theorem test_noconn_syn :
    ((noConnSyn exampleConfig 0x0a000005#32 (segWith 0x12 []) 3 peerCached).connTable,
      (noConnSyn exampleConfig 0x0a000005#32 (segWith 0x12 []) 3 peerCached).synCount)
      = ([{ exampleConn .synReceived with synTimestamp := 3 }], 1) := by decide +kernel
/-- Vector T2: the table is full; the SYN is counted. -/
theorem test_noconn_table_full :
    (noConnSyn exampleConfig 0x0a000006#32 (segWith 0x02 []) 4 { oneConn (exampleConn .synReceived) with synCount := 1 })
      = { oneConn (exampleConn .synReceived) with synCount := 2, results := [.rx (some .allocationFailure)] } := by decide +kernel
/-- Vector T1: the eleventh SYN. -/
theorem test_syn_flood :
    (noConnSyn exampleConfig 0x0a000005#32 (segWith 0x02 []) 510 { peerCached with synCount := 10 })
      = { peerCached with
        synCount := 11, effects := [.log .warn (.synFlood 0x0a000005#32 80)], results := [.rx (some .synFloodThreshold)] } := by decide +kernel
/-- Vector T1: at 1499 a new bucket starts. -/
theorem test_syn_bucket :
    (countSyn exampleConfig 1499 { State.reset with synCount := 11 }) = { State.reset with synBucketStart := 1499, synCount := 1 } := by decide +kernel
/-- Vector T4: ten octets into a ring of 16. -/
theorem test_established_data :
    ((armEstablishedData exampleConfig ⟨40000, 80, 0x2001, 0x101, 0x18, 0x2000, (List.range 10).map fun i => BitVec.ofNat 8 (65 + i)⟩
        (exampleConn .established) (oneConn (exampleConn .established))).connTable.map fun c => (c.ackNumber, c.recvEnd, c.recvCount))
      = [(0x200b#32, 10, 10)] := by decide +kernel
/-- Vector T4: ten octets, then ten more of which six fit. -/
theorem test_ring_overflow :
    ((ringPush exampleConfig (ringPush exampleConfig (exampleConn .established) (List.replicate 10 1)).2 (List.replicate 10 2)).1,
      (ringPush exampleConfig (ringPush exampleConfig (exampleConn .established) (List.replicate 10 1)).2 (List.replicate 10 2)).2.recvEnd)
      = (6, 0) := by decide +kernel
/-- Vector T5: data and FIN in one segment: three segments go out. -/
theorem test_data_with_fin :
    ((armEstablishedData exampleConfig ⟨40000, 80, 0x7778, 0x101, 0x19, 0x2000, [0x7a, 0x7a]⟩
        (exampleConn .established) (oneConn (exampleConn .established))).effects.length,
      (armEstablishedData exampleConfig ⟨40000, 80, 0x7778, 0x101, 0x19, 0x2000, [0x7a, 0x7a]⟩
        (exampleConn .established) (oneConn (exampleConn .established))).connTable.map fun c => (c.state, c.seqNumber, c.ackNumber))
      = (3, [(.lastAck, 0x102#32, 0x777b#32)]) := by decide +kernel
/-- Program P4 step 8, in little: the FIN is acknowledged. -/
theorem test_finWait2 :
    ((armFinWait2 exampleConfig (segWith 0x11 []) (exampleConn .finWait2) (oneConn (exampleConn .finWait2))).connTable.map
        fun c => (c.state, c.ackNumber)) = [(.timeWait, 0x2001#32)] := by decide +kernel
/-- R295: handle 0; the same port again fails. -/
theorem test_tcpListen :
    ((tcpListen exampleConfig 80 State.reset).results, (tcpListen exampleConfig 80 (tcpListen exampleConfig 80 State.reset)).results)
      = ([.ret (.handle 0)], [.ret (.handle 0), .ret .failure]) := by decide +kernel
/-- R343: program P3 after its third step. -/
theorem test_tcpAccept :
    (tcpAccept 0 (oneConn (exampleConn .established))).results = [.ret (.accepted 0 0x0a000005#32 40000)] := by decide +kernel
/-- R347: four octets of ten, the oldest first. -/
theorem test_tcpRecv :
    (tcpRecv exampleConfig 0 4 (oneConn (ringPush exampleConfig (exampleConn .established)
        ((List.range 10).map fun i => BitVec.ofNat 8 (48 + i))).2)).results
      = [.ret (.received 4 [0x30, 0x31, 0x32, 0x33])] := by decide +kernel
/-- R348: FIN_WAIT_1, `seq_number` one further. -/
theorem test_tcpClose :
    ((tcpClose exampleConfig 0 (oneConn (exampleConn .established))).connTable.map fun c => (c.state, c.seqNumber))
      = [(.finWait1, 0x102#32)] := by decide +kernel
/-- R348: any other state is removed, nothing is sent. -/
theorem test_tcpClose_forces :
    (tcpClose exampleConfig 0 (oneConn (exampleConn .finWait1)))
      = { peerCached with nextHandle := 1, results := [.ret .nothing] } := by decide +kernel
/-- Vector T6: `ISN` 0xfffffffe, and port 65535 is followed by port 0 (R26). -/
theorem test_tcpConnect_wraps :
    ((tcpConnect { exampleConfig with isn := fun _ => 0xfffffffe#32 } 0x0a000005#32 80 { peerCached with nextEphemeral := 65535 }).connTable.map
        fun c => (c.state, c.localPort, c.seqNumber, c.ackNumber),
      (tcpConnect { exampleConfig with isn := fun _ => 0xfffffffe#32 } 0x0a000005#32 80 { peerCached with nextEphemeral := 65535 }).nextEphemeral)
      = ([(.established, 65535, 0xffffffff#32, 0)], 0) := by decide +kernel
/-- Vector T2: the table is full, the port is consumed. -/
theorem test_tcpConnect_full :
    (tcpConnect exampleConfig 0x0a000005#32 80 (oneConn (exampleConn .synReceived)))
      = { oneConn (exampleConn .synReceived) with nextEphemeral := 49153, results := [.ret .failure] } := by decide +kernel
/-- What TCP.SEND leaves: the value returned, `seq_number` and `send_window_start` (vector T6). -/
def sent (out : Out) : List Result × List (Word32 × Nat) :=
  match out with
  | .next t => (t.results, t.connTable.map fun c => (c.seqNumber, c.sendWindowStart))
  | .fault _ => ([], [])
  | .refused _ => ([], [])

/-- Vector T6: five octets of a window of eight, then three of five. -/
theorem test_tcpSend_truncates :
    sent (tcpSend exampleConfig 0 [1, 2, 3, 4, 5] (oneConn { exampleConn .established with sendWindowStart := 5 }))
      = ([.ret (.count 3)], [(0x104#32, 8)]) := by decide +kernel
/-- Vector T6: nothing is sent for ever after. -/
theorem test_tcpSend_window_used :
    sent (tcpSend exampleConfig 0 [1] (oneConn { exampleConn .established with sendWindowStart := 8 }))
      = ([.ret (.count 0)], [(0x101#32, 8)]) := by decide +kernel
/-! ### For each statement with hypotheses, states and operands that meet them, for each clause -/

/-- A record of the chip, with its creation values, from 10.0.0.5 port 40000 to port 80. -/
def chipConn (st : TcpState) : Conn := newConn Config.chip 0 0x0a00002a#32 0x0a000005#32 80#16 40000#16 st 0x1000#32

/-- The state with that record alone. -/
def chipState (st : TcpState) : State := oneConn (chipConn st)

/-- What is found is not `none`. -/
theorem ne_none {α : Type} {o : Option α} {x : α} (h : o = some x) : o ≠ none := by simp [h]

/-- A new record of the chip is good: a ring holds at least one octet (R10). -/
theorem chipConn_ok (st : TcpState) : ConnOk Config.chip (chipConn st) where
  window := Nat.zero_le _
  windowEnd := rfl
  count := Nat.zero_le _
  start := Config.chip.rxbufCap_pos
  ringEnd := (Nat.zero_mod _).symm
  bufWf := ⟨List.Pairwise.nil, by simp [chipConn, newConn]⟩
  bufInside := by simp [chipConn, newConn]

/-- The state with one record is good: a table holds at least one record (R10). -/
theorem chipState_inv (st : TcpState) (pending : List Event) : State.Inv Config.chip { chipState st with pending := pending } where
  conns := by
    intro c hc
    rw [show c = chipConn st from List.mem_singleton.mp hc]
    exact chipConn_ok st
  tuples := List.pairwise_singleton _ _
  handles := List.pairwise_singleton _ _
  fresh := by
    intro c hc
    rw [show c = chipConn st from List.mem_singleton.mp hc]
    exact Nat.zero_lt_one
  capacity := fun n h => Config.chip.maxConn_pos n h

/-- A table with no record is not full (R10). -/
theorem not_full_of_empty {s : State} (h : s.connTable = []) : s.tableFull Config.chip = false := by
  unfold State.tableFull
  split
  · rfl
  · have := Config.chip.maxConn_pos _ ‹_›
    simp only [h, List.length_nil, decide_eq_false_iff_not]
    omega

/-! Steps and events. -/

theorem test_witness_StepRunsDecodedInstruction :
    (State.reset.deliver (.cmd 0x10 [] 0)).pending = [.cmd 0x10 [] 0] ∧ decodeEvent (.cmd 0x10 [] 0) = .ok .ipGetIp := ⟨rfl, rfl⟩
theorem test_witness_StepWithoutInstruction_idle : State.reset.pending = [] := rfl
theorem test_witness_StepWithoutInstruction_short :
    (State.reset.deliver (.rx (zeros 13) 5)).pending = [.rx (zeros 13) 5] ∧ (zeros 13).length < 14 := ⟨rfl, by decide⟩
theorem test_witness_StepWithoutInstruction_code :
    (State.reset.deliver (.cmd 8 [] 5)).pending = [.cmd 8 [] 5] ∧ ∀ code ∈ [0#8, 8#8, 15#8, 22#8, 31#8, 38#8, 255#8],
      ¬ ((1 ≤ code.toNat ∧ code.toNat ≤ 7) ∨ (16 ≤ code.toNat ∧ code.toNat ≤ 21) ∨ (32 ≤ code.toNat ∧ code.toNat ≤ 37)) :=
  ⟨rfl, by decide⟩
theorem test_witness_EveryReceiveEventEnds :
    ((chipState .established).deliver (.rx (zeros 60) 5)).pending = [.rx (zeros 60) 5] := rfl
theorem test_witness_EveryCommandEnds :
    State.Inv Config.chip ((chipState .established).deliver (.cmd 0x22 [.handle 0, .octets [1]] 0))
      ∧ ((chipState .established).deliver (.cmd 0x22 [.handle 0, .octets [1]] 0)).pending = [.cmd 0x22 [.handle 0, .octets [1]] 0]
      ∧ decodeCommand 0x22 [.handle 0, .octets [1]] = .ok (.tcpSend 0 [1]) ∧ (Instr.tcpSend 0 [1]).wellFormed = true :=
  ⟨chipState_inv _ _, rfl, rfl, rfl⟩

/-! Decoding and serialization. -/

theorem test_witness_DecodeEncode : (Instr.icmpRxEchoReply 5 8 1).wellFormed = true ∧ (Instr.arpRxOther 2 zeroMac 0 0).wellFormed = true :=
  ⟨rfl, rfl⟩
theorem test_witness_DecodeEncode_longest : (Instr.udpSend 0 0 0 (zeros 65507)).wellFormed = true := by
  simp [Instr.wellFormed, maxUdpPayload]
theorem test_witness_DecodedReceiveArmsWellFormed :
    (Encoded.icmpType 5 (zeros 8)).format ≠ .cmd ∧ decode (.icmpType 5 (zeros 8)) = .ok (.icmpRxEchoReply 5 8 0) := ⟨by decide, rfl⟩
theorem test_witness_DecodedRowMatches : decode (.cmd 0x25 [.addr 5, .half 80] 0) = .ok (.tcpConnect 5 80) := rfl
theorem test_witness_ChecksumValue : ([1, 2, 3] : Octets).length % 2 = 1 ∧ (∀ o ∈ ([0, 0] : Octets), o = 0) := by decide
theorem test_witness_InsertedChecksumVerifies :
    ([0xff, 0xff] : Octets).length % 2 = 0 ∧ 2 % 2 = 0 ∧ 2 + 2 ≤ ([5, 6, 0, 0, 7] : Octets).length
      ∧ octetAt [5, 6, 0, 0, 7] 2 = 0 ∧ octetAt [5, 6, 0, 0, 7] (2 + 1) = 0 := by decide
/-- The bounds of codes, lengths and pad counts, and a tail of each of the four kinds. -/
theorem test_witness_TlvWalkOfEncoded :
    (∀ o ∈ ([(0, 53, [1]), (3, 254, zeros 255), (1, 1, [])] : List (Nat × Octet × Octets)),
        o.2.1 ≠ 0 ∧ o.2.1 ≠ 255 ∧ o.2.2.length ≤ 255)
      ∧ (∀ tail ∈ ([[], [255, 1, 0], [254], [1, 1], [3, 255] ++ zeros 254] : List Octets),
        tail = [] ∨ (∃ rest, tail = tlvEnd ++ rest) ∨ (∃ c : Octet, c ≠ 0 ∧ c ≠ 255 ∧ tail = [c])
          ∨ ∃ (c n : Octet) (v : Octets), c ≠ 0 ∧ c ≠ 255 ∧ v.length < n.toNat ∧ tail = [c, n] ++ v) := by
  refine ⟨by simp, fun tail h => ?_⟩
  simp only [List.mem_cons, List.not_mem_nil, or_false] at h
  rcases h with rfl | rfl | rfl | rfl | rfl
  · exact .inl rfl
  · exact .inr (.inl ⟨[1, 0], rfl⟩)
  · exact .inr (.inr (.inl ⟨254, by decide, by decide, rfl⟩))
  · exact .inr (.inr (.inr ⟨1, 1, [], by decide, by decide, by decide, rfl⟩))
  · exact .inr (.inr (.inr ⟨3, 255, zeros 254, by decide, by decide, by simp, rfl⟩))
/-- R160, D32: pads are skipped, and what was delivered before a silent stop stands. -/
theorem test_tlvWalk_pads_and_stops :
    tlvWalk [0, 0, 53, 1, 2, 0, 1, 0, 0] 0 = [(53, 1, [2]), (1, 0, [])] ∧ tlvWalk [53, 1, 2, 0, 3] 0 = [(53, 1, [2])]
      ∧ tlvWalk [53, 1, 2, 3, 4, 10, 0, 0] 0 = [(53, 1, [2])] ∧ tlvWalk [9, 53, 1, 2, 255, 1, 0] 1 = [(53, 1, [2])] := by decide
theorem test_witness_TlvWalkStaysInside :
    ([53, 1, 2] : Octets).length ≤ 3 ∧ (53, 1, [2]) ∈ tlvWalk [53, 1, 2] 0 := by decide

/-! Ethernet and ARP. -/

theorem test_witness_EtherTypeBothOrders : (zeros 12).length = 12 := rfl
theorem test_witness_UnknownEtherTypeDropped : (zeros 12).length = 12 ∧ ∀ t ∈ [0x86dd#16, 0x0807#16, 0x0801#16, 0#16, 0xffff#16],
    t ≠ 0x0800#16 ∧ t ≠ 0x0008#16 ∧ t ≠ 0x0806#16 ∧ t ≠ 0x0608#16 := by simp
theorem test_witness_MalformedPacketPlaces :
    (zeros 13).length < 14 ∧ (zeros 27).length < 28 ∧ (zeros 19).length < 20
      ∧ ((0x4f : Octet) :: zeros 58).length < (octetAt ((0x4f : Octet) :: zeros 58) 0).toNat % 16 * 4 ∧ (zeros 7).length < 8
      ∧ (segOctets 0x60 0x02 [0, 0, 0]).length < (octetAt (segOctets 0x60 0x02 [0, 0, 0]) 12).toNat / 16 * 4 := by decide
/-- An instruction that ends with the drop, and one at the bound that does not. -/
theorem test_witness_MalformedPacketPlaces_iff :
    exec (.ethRxIpv4 ((0x45 : Octet) :: zeros 8 ++ [1] ++ zeros 17) 0) State.reset
        = .next { State.reset with results := [.rx (some .malformedPacket)] }
      ∧ tooShort (.ethRxIpv4 ((0x45 : Octet) :: zeros 8 ++ [1] ++ zeros 17) 0)
      ∧ exec (.ipRxIcmp 5 [8, 0, 0, 0, 0, 0, 0, 0]) State.reset = .next { State.reset with results := [.rx (some .icmpIgnored)] }
      ∧ ¬ tooShort (.ipRxIcmp 5 [8, 0, 0, 0, 0, 0, 0, 0]) :=
  ⟨rfl, Or.inl ⟨_, 0, Or.inl rfl, Or.inr (Or.inr (Or.inl ⟨by decide, by decide⟩))⟩, rfl, by simp [tooShort]⟩
theorem test_witness_MalformedPacketPlaces_dhcp : (zeros 235).length < 236 ∧ 236 ≤ (zeros 236).length := by simp
theorem test_witness_ArpReceive : 0x0a00002a#32 = peerCached.ownIp ∧ 0x0a000007#32 ≠ peerCached.ownIp := by decide
theorem test_witness_ArpResolution : 0x0a000005#32 = peerCached.arpCache.ip ∧ 0x0a000001#32 ≠ peerCached.arpCache.ip := by decide
theorem test_witness_ArpRequest : ∃ f : Octets, f =
    List.replicate 6 0xff ++ Config.chip.ownMac.octets ++ [0x08, 0x06]
      ++ ([0x00, 0x01, 0x08, 0x00, 0x06, 0x04, 0x00, 0x01] ++ Config.chip.ownMac.octets ++ put32 peerCached.ownIp
        ++ List.replicate 6 0 ++ put32 0x0a000001#32 ++ List.replicate 18 0) := ⟨_, rfl⟩

/-! IPv4, ICMP, UDP, DHCP. -/

theorem test_witness_IpHeaderLayout : 65515 ≤ 65515 ∧ 0 ≤ 65515 := by decide
theorem test_witness_IpSend_hit : (zeros 65515).length ≤ 65515
    ∧ 0x0a000005#32 = (if 0x0a000005#32 &&& peerCached.netmask = peerCached.ownIp &&& peerCached.netmask then 0x0a000005#32
      else peerCached.gatewayIp) ∧ 0x0a000005#32 = peerCached.arpCache.ip := ⟨by simp, by decide, rfl⟩
theorem test_witness_IpSend_miss : (zeros 0).length ≤ 65515
    ∧ 0x0a000001#32 = (if 0x08080808#32 &&& peerCached.netmask = peerCached.ownIp &&& peerCached.netmask then 0x08080808#32
      else peerCached.gatewayIp) ∧ 0x0a000001#32 ≠ peerCached.arpCache.ip := by decide
theorem test_witness_IpDispatch : 24 = (octetAt ((0x46 : Octet) :: zeros 30) 0).toNat % 16 * 4
    ∧ 0#32 = be32 ((0x46 : Octet) :: zeros 30) 12 ∧ zeros 7 = ((0x46 : Octet) :: zeros 30).drop 24 := by decide
/-- R291, R292: the header length nibble at 0, 6 and 15, and one octet short of what it claims. -/
theorem test_parseTcp_header_length :
    (parseTcp (segOctets 0x0f 0x10 [7])).map (fun seg => seg.data) = some (segOctets 0x0f 0x10 [7])
      ∧ (parseTcp (segOctets 0x60 0x10 [1, 2, 3, 4, 7])).map (fun seg => seg.data) = some [7]
      ∧ (parseTcp (segOctets 0xf0 0x10 (zeros 40 ++ [7]))).map (fun seg => seg.data) = some [7]
      ∧ parseTcp (segOctets 0xf0 0x10 (zeros 39)) = none := by decide
theorem test_witness_IgnoredHeaderFields_frame :
    (zeros 12 ++ [8, 6, 1]).length = ((1 : Octet) :: zeros 11 ++ [8, 6, 1]).length
      ∧ (zeros 12 ++ [8, 6, 1]).drop 12 = ((1 : Octet) :: zeros 11 ++ [8, 6, 1]).drop 12 := by decide
theorem test_witness_IgnoredHeaderFields_arp :
    28 ≤ (zeros 28).length ∧ 28 ≤ ((1 : Octet) :: zeros 40).length ∧ be16 (zeros 28) 6 = be16 ((1 : Octet) :: zeros 40) 6
      ∧ macAt (zeros 28) 8 = macAt ((1 : Octet) :: zeros 40) 8 ∧ be32 (zeros 28) 14 = be32 ((1 : Octet) :: zeros 40) 14
      ∧ be32 (zeros 28) 24 = be32 ((1 : Octet) :: zeros 40) 24 := by decide
theorem test_witness_IgnoredHeaderFields_ip :
    ((0x45 : Octet) :: zeros 30).length = ((0x65 : Octet) :: 1 :: zeros 29).length
      ∧ (octetAt ((0x45 : Octet) :: zeros 30) 0).toNat % 16 = (octetAt ((0x65 : Octet) :: 1 :: zeros 29) 0).toNat % 16
      ∧ octetAt ((0x45 : Octet) :: zeros 30) 9 = octetAt ((0x65 : Octet) :: 1 :: zeros 29) 9
      ∧ be32 ((0x45 : Octet) :: zeros 30) 12 = be32 ((0x65 : Octet) :: 1 :: zeros 29) 12
      ∧ ((0x45 : Octet) :: zeros 30).drop ((octetAt ((0x45 : Octet) :: zeros 30) 0).toNat % 16 * 4)
        = ((0x65 : Octet) :: 1 :: zeros 29).drop ((octetAt ((0x45 : Octet) :: zeros 30) 0).toNat % 16 * 4) := by decide
theorem test_witness_IgnoredHeaderFields_icmp_udp :
    ([0, 1, 2, 3, 4, 5, 6, 7] : Octets).length = ([0, 9, 8, 7, 6, 5, 6, 7] : Octets).length
      ∧ octetAt [0, 1, 2, 3, 4, 5, 6, 7] 0 = octetAt [0, 9, 8, 7, 6, 5, 6, 7] 0
      ∧ be16 [0, 1, 2, 3, 4, 5, 6, 7] 6 = be16 [0, 9, 8, 7, 6, 5, 6, 7] 6
      ∧ ([9, 9, 0, 68, 9, 9, 9, 9, 1] : Octets).length = ([0, 0, 0, 68, 0, 0, 0, 0, 1] : Octets).length
      ∧ be16 [9, 9, 0, 68, 9, 9, 9, 9, 1] 2 = be16 [0, 0, 0, 68, 0, 0, 0, 0, 1] 2
      ∧ ([9, 9, 0, 68, 9, 9, 9, 9, 1] : Octets).drop 8 = ([0, 0, 0, 68, 0, 0, 0, 0, 1] : Octets).drop 8 := by decide
theorem test_witness_ReceivedChecksumsIgnored :
    20 ≤ ((0x45 : Octet) :: zeros 19).length ∧ 20 ≤ (octetAt ((0x45 : Octet) :: zeros 19) 0).toNat % 16 * 4 ∧ 8 ≤ (zeros 8).length
      ∧ 20 ≤ (segOctets 0x50 0x10 []).length ∧ 20 ≤ (octetAt (segOctets 0x50 0x10 []) 12).toNat / 16 * 4 := by decide
theorem test_witness_UdpSend : (zeros 65507).length ≤ 65507 ∧ 65507 < (zeros 65508).length ∧ 65515 < (zeros 65516).length := by simp

/-- A DHCP message of the shortest length, 236 octets, to the chip, with this `yiaddr` (R108). -/
def dhcpMessage (yiaddr : Word32) (chaddr : Mac) : Octets := zeros 16 ++ put32 yiaddr ++ zeros 8 ++ chaddr.octets ++ zeros 202

theorem length_dhcpMessage (yiaddr : Word32) (chaddr : Mac) : (dhcpMessage yiaddr chaddr).length = 236 := by
  simp [dhcpMessage]

/-- No octet is its own complement. -/
theorem not_ne_self (o : Octet) : ~~~o ≠ o := by revert o; decide

theorem test_witness_DhcpReceive_malformed : (zeros 235).length < 236 := by simp
theorem test_witness_DhcpReceive_not_for_us : ∃ m : Mac, 236 ≤ (dhcpMessage 5 m).length ∧ macAt (dhcpMessage 5 m) 28 ≠ Config.chip.ownMac :=
  ⟨⟨~~~Config.chip.ownMac.o0, 0, 0, 0, 0, 0⟩, (length_dhcpMessage _ _).ge, fun h => not_ne_self _ (congrArg Mac.o0 h)⟩
theorem test_witness_DhcpReceive_no_address : 236 ≤ (dhcpMessage 0 Config.chip.ownMac).length
    ∧ macAt (dhcpMessage 0 Config.chip.ownMac) 28 = Config.chip.ownMac ∧ be32 (dhcpMessage 0 Config.chip.ownMac) 16 = 0 :=
  ⟨(length_dhcpMessage _ _).ge, rfl, word_of_octets 0⟩
theorem test_witness_DhcpReceive_accepted : 236 ≤ (dhcpMessage 5 Config.chip.ownMac).length
    ∧ macAt (dhcpMessage 5 Config.chip.ownMac) 28 = Config.chip.ownMac ∧ be32 (dhcpMessage 5 Config.chip.ownMac) 16 ≠ 0 :=
  ⟨(length_dhcpMessage _ _).ge, rfl, by rw [show be32 (dhcpMessage 5 Config.chip.ownMac) 16 = 5 from word_of_octets 5]; decide⟩
theorem test_witness_DhcpLastOptionStands : 236 ≤ (dhcpMessage 1 Config.chip.ownMac ++ [0, 0, 0, 0, 1, 4, 255, 0, 0, 0]).length
    ∧ macAt (dhcpMessage 1 Config.chip.ownMac ++ [0, 0, 0, 0, 1, 4, 255, 0, 0, 0]) 28 = Config.chip.ownMac
    ∧ be32 (dhcpMessage 1 Config.chip.ownMac ++ [0, 0, 0, 0, 1, 4, 255, 0, 0, 0]) 16 ≠ 0 :=
  ⟨by simp [length_dhcpMessage], rfl, by
    rw [show be32 (dhcpMessage 1 Config.chip.ownMac ++ [0, 0, 0, 0, 1, 4, 255, 0, 0, 0]) 16 = 1 from word_of_octets 1]; decide⟩
theorem test_witness_DhcpOptionArms : 4 ≤ ([1, 2, 3, 4] : Octets).length ∧ ([1, 2, 3] : Octets).length < 4 := by decide

/-! The ring, records and segments. -/

theorem exampleConn_ok (st : TcpState) : ConnOk exampleConfig (exampleConn st) where
  window := Nat.zero_le _
  windowEnd := rfl
  count := Nat.zero_le _
  start := exampleConfig.rxbufCap_pos
  ringEnd := rfl
  bufWf := ⟨List.Pairwise.nil, by simp [exampleConn, newConn]⟩
  bufInside := by simp [exampleConn, newConn]

theorem test_witness_RingPushStores : ConnOk exampleConfig (exampleConn .established)
    ∧ 16 = min (zeros 20).length (exampleConfig.rxbufCap - (exampleConn .established).recvCount) := ⟨exampleConn_ok _, by decide⟩
theorem test_witness_RingIsFifo : ConnOk Config.chip (chipConn .established) := chipConn_ok _
theorem test_witness_CreateConnection_taken : (chipState .listen).lookup 0x0a00002a#32 0x0a000005#32 80 40000 ≠ none :=
  ne_none (x := chipConn .listen) rfl
theorem test_witness_CreateConnection_free :
    peerCached.lookup 0x0a00002a#32 0x0a000005#32 80 40000 = none ∧ peerCached.tableFull Config.chip = false :=
  ⟨rfl, not_full_of_empty rfl⟩
/-- A table of `MAX_CONN` records is full; the chip's `MAX_CONN` may also be infinite (R10), so this stands under its value. -/
theorem test_witness_full_table (n : Nat) (h : Config.chip.maxConn = some n) :
    ({ State.reset with connTable := List.replicate n (chipConn .listen) }).tableFull Config.chip = true
      ∧ ({ State.reset with connTable := List.replicate n (chipConn .listen) }).lookupSegment 7 (segWith 0x02 []) = none := by
  constructor
  · simp [State.tableFull, h]
  · refine List.find?_eq_none.mpr fun c hc => ?_
    rw [List.eq_of_mem_replicate hc]
    simp [chipConn, newConn]
theorem test_witness_EmitSegment : (zeros 65495).length ≤ 65495 := by simp

/-! The receive arms of TCP. -/

/-- The segments of `segWith` find the record of `chipState`. -/
theorem chipState_lookup (st : TcpState) (flags : Octet) (data : Octets) :
    (chipState st).lookupSegment 0x0a000005#32 (segWith flags data) = some (chipConn st) := rfl

theorem test_witness_NoConnectionArm_new_bucket : peerCached.lookupSegment 0x0a000005#32 (segWith 0x02 []) = none
    ∧ (3, 1) = (if 3 < (7 : Nat) ∨ Config.chip.ticksPerSecond ≤ 3 - 7 then (3, 1) else (7, 0 + 1))
    ∧ (segWith 0x02 []).flags &&& 0x02#8 ≠ 0 ∧ 1 ≤ 10 ∧ peerCached.tableFull Config.chip = false
    ∧ ∀ d ∈ peerCached.connTable, d.handle < peerCached.nextHandle :=
  ⟨rfl, rfl, by decide, by decide, not_full_of_empty rfl, by simp [peerCached, State.reset]⟩
theorem test_witness_NoConnectionArm_flood :
    ({ peerCached with synCount := 10 }).lookupSegment 0x0a000005#32 (segWith 0x02 []) = none
    ∧ (0, 11) = (if 0 < ({ peerCached with synCount := 10 }).synBucketStart
          ∨ Config.chip.ticksPerSecond ≤ 0 - ({ peerCached with synCount := 10 }).synBucketStart then (0, 1)
        else (({ peerCached with synCount := 10 }).synBucketStart, ({ peerCached with synCount := 10 }).synCount + 1))
    ∧ 10 < 11 := by
  have := Config.chip.ticksPerSecond_pos
  refine ⟨rfl, ?_, by decide⟩
  rw [if_neg]
  · rfl
  · simp only [peerCached, State.reset]; omega
theorem test_witness_NoConnectionArm_limit (n : Nat) (h : Config.chip.maxConn = some n) :
    ({ State.reset with connTable := List.replicate n (chipConn .listen), synCount := 9 }).lookupSegment 7 (segWith 0x02 []) = none
    ∧ (0, 10) = (if 0 < 0 ∨ Config.chip.ticksPerSecond ≤ 0 - 0 then (0, 1) else (0, 9 + 1)) ∧ 10 ≤ 10
    ∧ ({ State.reset with connTable := List.replicate n (chipConn .listen), synCount := 9 }).tableFull Config.chip = true := by
  have := Config.chip.ticksPerSecond_pos
  refine ⟨(test_witness_full_table n h).2, ?_, by decide, (test_witness_full_table n h).1⟩
  rw [if_neg (by omega)]
theorem test_witness_NoConnectionArm_other : (segWith 0x10 []).flags &&& 0x02#8 = 0 := by decide
theorem test_witness_HandshakeArms : (chipState .listen).lookupSegment 0x0a000005#32 (segWith 0x02 []) = some (chipConn .listen)
    ∧ (chipState .synSent).lookupSegment 0x0a000005#32 (segWith 0x12 []) = some (chipConn .synSent)
    ∧ (chipConn .listen).state = .listen ∧ (chipConn .synSent).state = .synSent := ⟨rfl, rfl, rfl, rfl⟩
theorem test_witness_AckArms : (chipState .synReceived).lookupSegment 0x0a000005#32 (segWith 0x10 []) = some (chipConn .synReceived)
    ∧ (chipState .finWait1).lookupSegment 0x0a000005#32 (segWith 0x11 []) = some (chipConn .finWait1)
    ∧ (chipState .lastAck).lookupSegment 0x0a000005#32 (segWith 0x10 [1]) = some (chipConn .lastAck) := ⟨rfl, rfl, rfl⟩
theorem test_witness_EstablishedData : (chipState .established).lookupSegment 0x0a000005#32 (segWith 0x19 [1]) = some (chipConn .established)
    ∧ (chipConn .established).state = .established ∧ (segWith 0x18 [1]).flags &&& 0x01#8 = 0 ∧ (segWith 0x19 [1]).flags &&& 0x01#8 ≠ 0 :=
  ⟨rfl, rfl, by decide, by decide⟩
theorem test_witness_ClosingArms : (chipState .established).lookupSegment 0x0a000005#32 (segWith 0x11 []) = some (chipConn .established)
    ∧ (chipState .finWait2).lookupSegment 0x0a000005#32 (segWith 0x11 []) = some (chipConn .finWait2)
    ∧ (chipState .timeWait).lookupSegment 0x0a000005#32 (segWith 0x00 []) = some (chipConn .timeWait)
    ∧ (chipState .closeWait).lookupSegment 0x0a000005#32 (segWith 0x00 []) = some (chipConn .closeWait) := ⟨rfl, rfl, rfl, rfl⟩
theorem test_witness_IgnoredSegmentFields :
    (segWith 0x18 [1]).srcPort = ({ segWith 0x30 [1] with ack := 7, window := 9 }).srcPort
      ∧ (segWith 0x18 [1]).dstPort = ({ segWith 0x30 [1] with ack := 7, window := 9 }).dstPort
      ∧ (segWith 0x18 [1]).seq = ({ segWith 0x30 [1] with ack := 7, window := 9 }).seq
      ∧ (segWith 0x18 [1]).data = ({ segWith 0x30 [1] with ack := 7, window := 9 }).data
      ∧ (segWith 0x18 [1]).flags &&& 0x13#8 = ({ segWith 0x30 [1] with ack := 7, window := 9 }).flags &&& 0x13#8 := by decide

/-! The commands of TCP. -/

theorem test_witness_TcpListen_free : peerCached.lookup peerCached.ownIp 0 80 0 = none ∧ peerCached.tableFull Config.chip = false :=
  ⟨rfl, not_full_of_empty rfl⟩
theorem test_witness_TcpListen_bound :
    (oneConn { chipConn .listen with remoteIp := 0, remotePort := 0 }).lookup 0x0a00002a#32 0 80 0 ≠ none :=
  ne_none (x := { chipConn .listen with remoteIp := 0, remotePort := 0 }) rfl
theorem test_witness_established_handle : (chipState .established).byHandle 0 = some (chipConn .established)
    ∧ (chipConn .established).state = .established := ⟨rfl, rfl⟩
theorem test_witness_not_established : (∀ c, (chipState .listen).byHandle 0 = some c → c.state ≠ .established)
    ∧ ∀ c, (chipState .established).byHandle (-1) = some c → c.state ≠ .established := by
  refine ⟨fun c h => ?_, fun c h => ?_⟩
  · rw [← Option.some.inj ((show _ = some (chipConn .listen) from rfl).symm.trans h)]
    decide
  · exact absurd ((show _ = none from rfl).symm.trans h) (by simp)
/-- The three clauses of TcpSend: the most one segment carries, an empty window, and one octet more than a segment carries. -/
theorem test_witness_TcpSend :
    65495 = min (zeros 70000).length (65495 - 0) ∧ 0 < 65495 ∧ 65495 ≤ 65495
      ∧ (oneConn { chipConn .established with sendWindowEnd := 65495 }).byHandle 0
        = some { chipConn .established with sendWindowEnd := 65495 }
      ∧ 0 = min (zeros 5).length (8 - 8)
      ∧ (oneConn { chipConn .established with sendWindowStart := 8, sendWindowEnd := 8 }).byHandle 0
        = some { chipConn .established with sendWindowStart := 8, sendWindowEnd := 8 }
      ∧ 65496 = min (zeros 65496).length (70000 - 0) ∧ 65495 < 65496
      ∧ (oneConn { chipConn .established with sendWindowEnd := 70000 }).byHandle 0
        = some { chipConn .established with sendWindowEnd := 70000 } := by
  simp only [length_zeros]
  exact ⟨rfl, by decide, by decide, rfl, rfl, rfl, rfl, by decide, rfl⟩
theorem test_witness_TcpRecv : (chipState .established).byHandle 0 = some (chipConn .established)
    ∧ (chipConn .established).recvStart < Config.chip.rxbufCap ∧ 0 = min 9 (chipConn .established).recvCount :=
  ⟨rfl, Config.chip.rxbufCap_pos, rfl⟩
theorem test_witness_TcpClose : (chipState .finWait1).byHandle 0 = some (chipConn .finWait1) ∧ (chipConn .finWait1).state ≠ .established
    ∧ (chipState .finWait1).byHandle 1 = none := ⟨rfl, by decide, rfl⟩
theorem test_witness_TcpConnect_free : peerCached.lookup peerCached.ownIp 0x0a000005#32 peerCached.nextEphemeral 80 = none
    ∧ peerCached.tableFull Config.chip = false ∧ ∀ d ∈ peerCached.connTable, d.handle < peerCached.nextHandle :=
  ⟨rfl, not_full_of_empty rfl, by simp [peerCached, State.reset]⟩
theorem test_witness_TcpConnect_taken :
    (oneConn { chipConn .established with localPort := 49152, remotePort := 80 }).lookup 0x0a00002a#32 0x0a000005#32 49152 80 ≠ none :=
  ne_none (x := { chipConn .established with localPort := 49152, remotePort := 80 }) rfl

/-! The whole machine. -/

/-- TCP.CLOSE of a listening record removes it (R348). -/
theorem close_listen (pending : List Event) : exec (.tcpClose 0) { chipState .listen with pending := pending }
    = .next { peerCached with nextHandle := 1, pending := pending, results := [.ret .nothing] } := rfl

theorem test_witness_StepKeepsInvariants : State.Inv Config.chip ((chipState .listen).deliver (.cmd 0x24 [.handle 0] 5))
    ∧ step ((chipState .listen).deliver (.cmd 0x24 [.handle 0] 5))
      = .next { peerCached with nextHandle := 1, results := [.ret .nothing] } :=
  ⟨chipState_inv _ _, close_listen []⟩
theorem test_witness_StepKeepsLegalStates : State.LegalStates ((chipState .listen).deliver (.cmd 0x24 [.handle 0] 5)) := by
  intro c hc
  rw [show c = chipConn .listen from List.mem_singleton.mp hc]
  rfl
theorem test_witness_OnlyListedWriters :
    exec (.ipSetNetmask 7) State.reset = .next { State.reset with netmask := 7, results := [.ret .nothing] } := rfl
theorem test_witness_RecordIdentityConstant : State.Inv Config.chip (chipState .established)
    ∧ exec (.tcpAccept 0) (chipState .established)
      = .next { chipState .established with results := [.ret (.accepted 0 0x0a000005#32 40000)] }
    ∧ chipConn .established ∈ (chipState .established).connTable := ⟨chipState_inv _ _, rfl, List.mem_singleton.mpr rfl⟩
theorem test_witness_HandlesNeverReused : exec (.ipGetIp) (chipState .established)
      = .next { chipState .established with results := [.ret (.word 0x0a00002a#32)] }
    ∧ chipConn .established ∈ (chipState .established).connTable := ⟨rfl, List.mem_singleton.mpr rfl⟩
theorem test_witness_RecordLifecycle_closed : State.Inv Config.chip (chipState .listen)
    ∧ exec (.tcpClose 0) (chipState .listen) = .next { peerCached with nextHandle := 1, results := [.ret .nothing] }
    ∧ chipConn .listen ∈ (chipState .listen).connTable ∧ ∀ d ∈ ({ peerCached with nextHandle := 1 }).connTable,
      d.handle ≠ (chipConn .listen).handle :=
  ⟨chipState_inv _ _, close_listen [], List.mem_singleton.mpr rfl, by simp [peerCached, State.reset]⟩
/-- The other two ways out of the table. -/
theorem test_witness_RecordLifecycle_removed :
    exec (.tcpRxLastAckAck 0x0a000005#32 (segWith 0x10 [])) (chipState .lastAck)
        = .next { peerCached with nextHandle := 1, results := [.rx none] }
      ∧ exec (.tcpRxTimeWaitAny 0x0a000005#32 (segWith 0x00 [])) (chipState .timeWait)
        = .next { peerCached with nextHandle := 1, results := [.rx none] }
      ∧ chipConn .lastAck ∈ (chipState .lastAck).connTable ∧ chipConn .timeWait ∈ (chipState .timeWait).connTable :=
  ⟨rfl, rfl, List.mem_singleton.mpr rfl, List.mem_singleton.mpr rfl⟩
/-- A record that becomes ESTABLISHED by an ACK in SYN_RECEIVED. -/
theorem test_witness_RecordLifecycle_established : State.Inv Config.chip (chipState .synReceived)
    ∧ exec (.tcpRxSynReceivedAck 0x0a000005#32 (segWith 0x10 [])) (chipState .synReceived)
      = .next { chipState .established with results := [.rx none] }
    ∧ chipConn .established ∈ (chipState .established).connTable ∧ (chipConn .established).state = .established :=
  ⟨chipState_inv _ _, rfl, List.mem_singleton.mpr rfl, rfl⟩
/-- An empty table makes room for a record. -/
theorem createConn_of_empty {s : State} (h : s.connTable = []) (lip rip : Word32) (lp rp : Word16) (st : TcpState) :
    createConn Config.chip lip rip lp rp st s
      = some (newConn Config.chip s.nextHandle lip rip lp rp st (Config.chip.isn s.isnDraws), { s with
          nextHandle := s.nextHandle + 1
          isnDraws := s.isnDraws + 1
          connTable := [newConn Config.chip s.nextHandle lip rip lp rp st (Config.chip.isn s.isnDraws)] }) := by
  simp [createConn, State.lookup, not_full_of_empty h, h]
/-- Records that are new: TCP.CONNECT leaves one ESTABLISHED, TCP.LISTEN leaves one in LISTEN. -/
theorem test_witness_RecordLifecycle_created :
    (∃ t d, exec (.tcpConnect 0x0a000005#32 80) peerCached = .next t ∧ d ∈ t.connTable ∧ d.state = .established ∧ d.handle = 0)
      ∧ (∃ t d, exec (.tcpListen 80) peerCached = .next t ∧ d ∈ t.connTable ∧ d.state = .listen ∧ d.handle = 0)
      ∧ State.Inv Config.chip peerCached ∧ ∀ c ∈ peerCached.connTable, c.handle ≠ 0 := by
  refine ⟨⟨_, { (newConn Config.chip 0 peerCached.ownIp 0x0a000005#32 peerCached.nextEphemeral 80 .synSent
      (Config.chip.isn 0)).countSegment flagSyn [] with state := .established }, rfl, ?_, rfl, rfl⟩,
    ⟨_, newConn Config.chip 0 peerCached.ownIp 0 80 0 .listen (Config.chip.isn 0), rfl, ?_, rfl, rfl⟩,
    ⟨by simp [peerCached, State.reset], List.Pairwise.nil, List.Pairwise.nil, by simp [peerCached, State.reset],
      fun n _ => Nat.zero_le n⟩, by simp [peerCached, State.reset]⟩
  · unfold tcpConnect
    rw [createConn_of_empty (by simp [State.stepEphemeral, peerCached, State.reset])]
    simp [State.ret, State.finish, State.setConn, State.stepEphemeral, newConn, Conn.countSegment, peerCached, State.reset]
  · unfold tcpListen
    rw [createConn_of_empty rfl]
    exact List.mem_singleton.mpr rfl

/-! Table words (log 14, 16). -/

theorem test_tableWord_command : decodeTableWord 8 0x25 = some (.tcpConnect 0 0) := rfl
theorem test_tableWord_state_flags : decodeTableWord 16 0x601 = some (.tcpRxFinWait2Fin 0 ⟨0, 0, 0, 0, 0x01, 0, []⟩) := rfl
theorem test_fetchWord_runs : step (State.reset.withFetchWord 8 0x10) = .next { State.reset with results := [.ret (.word 0)] } := rfl
/-- The word of the row TCP.RX.NO_ACTION's key for LISTEN without flags: the segment is dropped there. -/
theorem test_fetchWord_tcp : ∃ t, step (State.reset.withFetchWord 16 0x100) = .next t ∧ t.results = [.rx (some .tcpNoAction)] :=
  ⟨_, rfl, rfl⟩

end Sys2Proof.Tests
end

/-! PROOFS. Steps and events. -/

namespace Sys2Proof.Machine

/-- Taking the oldest event off the pending list leaves the events behind it and every other field as it was. -/
theorem State.dropPending_of_pending_cons {s : State} {e : Event} {rest : List Event} (hp : s.pending = e :: rest) :
    s.dropPending = { s with pending := rest } := by
  rw [State.dropPending, hp, List.tail_cons]

/-- The branch of a step in which the oldest event decodes to an instruction (R17, R70). -/
theorem step_of_decodeEvent_ok {s : State} {e : Event} {rest : List Event} {i : Instr}
    (hp : s.pending = e :: rest) (hd : decodeEvent e = .ok i) : step s = exec i s.dropPending := by
  simp only [step, hp, hd]

/-- Settles O2: the decoding branch of `step`, with the shortened pending list written out. -/
theorem stepRunsDecodedInstruction : Obligations.StepRunsDecodedInstruction := by
  intro s e rest i hp hd
  rw [step_of_decodeEvent_ok hp hd, State.dropPending_of_pending_cons hp]

end Sys2Proof.Machine

/-! PROOFS. Reset (R38) and what an empty connection table gives. -/

namespace Sys2Proof.Machine

/-- A state without records has every invariant of R35. -/
theorem inv_of_connTable_nil (cfg : Config) {s : State} (h : s.connTable = []) : s.Inv cfg where
  conns := by simp [h]
  tuples := by simp [h]
  handles := by simp [h]
  fresh := by simp [h]
  capacity := by simp [h]

/-- A state without records has none in an illegal state (R352). -/
theorem legalStates_of_connTable_nil {s : State} (h : s.connTable = []) : s.LegalStates := by
  simp [State.LegalStates, h]

/-- Settles O1: the definition of the reset state, register by register. -/
theorem resetState : Obligations.ResetState :=
  ⟨rfl, rfl, rfl, rfl, rfl, rfl, rfl, rfl, rfl, rfl⟩

/-- Settles O54: the table is empty after reset. -/
theorem resetKeepsInvariants : Obligations.ResetKeepsInvariants :=
  ⟨inv_of_connTable_nil Config.chip rfl, legalStates_of_connTable_nil rfl⟩

end Sys2Proof.Machine

/-! PROOFS. Outcomes and dispatches: what holds of every arm holds of the operation that selects one. -/

namespace Sys2Proof.Machine

/-! ### Outcomes -/

/-- If the outcome is a next state, that state has the property; a fault or a refusal has no next state. -/
def OnNext (P : State → Prop) (o : Out) : Prop := ∀ t, o = .next t → P t

theorem onNext_next {P : State → Prop} {t : State} (h : P t) : OnNext P (.next t) := by
  rintro _ ⟨⟩
  exact h

theorem onNext_refused (P : State → Prop) (r : Refusal) : OnNext P (.refused r) := nofun

/-- An outcome that is refused under a condition (R222, R253). -/
theorem onNext_ite_refused {P : State → Prop} {r : Refusal} {p : Prop} [Decidable p] {o : Out} (h : ¬ p → OnNext P o) :
    OnNext P (if p then .refused r else o) := by
  split
  · exact onNext_refused P r
  · exact h ‹_›

/-- An arm of the receive table acts on the record its lookup finds (R107, R117). -/
theorem onNext_onConn {P : State → Prop} {src : Word32} {seg : TcpSeg} {st : TcpState} {s : State} {arm : Conn → State}
    (h : ∀ c, s.lookupSegment src seg = some c → P (arm c)) : OnNext P (onConn src seg st s arm) := by
  unfold onConn
  split
  · exact onNext_refused P _
  · split
    · exact onNext_next (h _ ‹_›)
    · exact onNext_refused P _

/-- A NOCONN arm runs where the lookup finds no record (R107). -/
theorem onNext_onNoConn {P : State → Prop} {src : Word32} {seg : TcpSeg} {s t : State} (h : P t) :
    OnNext P (onNoConn src seg s t) := by
  unfold onNoConn
  split
  · exact onNext_next h
  · exact onNext_refused P _

/-- The three ways a step answers a next state (R17, R70, R170, R401): no event, the instruction of the oldest event, a frame cut
short. -/
theorem onNext_step {P : State → Prop} {s : State} (idle : P s) (run : ∀ i, OnNext P (exec i s.dropPending))
    (short : P (s.dropPending.raiseDrop .malformedPacket)) : OnNext P (step s) := by
  unfold step
  split
  · exact onNext_next idle
  · split
    · exact run _
    · rename_i err _
      cases err with
      | malformedPacket => exact onNext_next short
      | noOption => exact onNext_refused P _
      | unknownCommandCode => exact onNext_refused P _
      | wrongOperands => exact onNext_refused P _

/-! ### Dispatches -/

section

variable {α : Type} {P : α → Prop} {malformed : α}

theorem caseFrame_of_arms {f : Octets} {ipv4 ipv4Swapped arp arpSwapped : Octets → α} {unknown : Word16 → α} (hm : P malformed)
    (h4 : ∀ p, P (ipv4 p)) (h4s : ∀ p, P (ipv4Swapped p)) (ha : ∀ p, P (arp p)) (has : ∀ p, P (arpSwapped p))
    (hu : ∀ t, P (unknown t)) : P (caseFrame f malformed ipv4 ipv4Swapped arp arpSwapped unknown) := by
  unfold caseFrame
  split_ifs
  exacts [hm, h4 _, h4s _, ha _, has _, hu _]

theorem caseArp_of_arms {p : Octets} {request : Mac → Word32 → Word32 → α} {other : Word16 → Mac → Word32 → Word32 → α}
    (hm : P malformed) (hr : ∀ sha spa tpa, P (request sha spa tpa)) (ho : ∀ op sha spa tpa, P (other op sha spa tpa)) :
    P (caseArp p malformed request other) := by
  unfold caseArp
  split_ifs
  exacts [hm, hr _ _ _, ho _ _ _ _]

theorem caseIp_of_arms {b : Octets} {icmp tcp udp : Word32 → Octets → α} {unknown : Octet → α} (hm : P malformed)
    (hi : ∀ src p, P (icmp src p)) (ht : ∀ src p, P (tcp src p)) (hu : ∀ src p, P (udp src p)) (hx : ∀ proto, P (unknown proto)) :
    P (caseIp b malformed icmp tcp udp unknown) := by
  unfold caseIp
  split_ifs
  exacts [hm, hm, hi _ _, hu _ _, ht _ _, hx _]

theorem caseIcmp_of_arms {b : Octets} {echoReply : Nat → Word16 → α} {other : Octet → α} (hm : P malformed)
    (he : ∀ n q, P (echoReply n q)) (ho : ∀ t, P (other t)) : P (caseIcmp b malformed echoReply other) := by
  unfold caseIcmp
  split_ifs
  exacts [hm, he _ _, ho _]

theorem caseUdp_of_arms {b : Octets} {dhcp : Octets → α} {other : Word16 → α} (hm : P malformed) (hd : ∀ p, P (dhcp p))
    (ho : ∀ port, P (other port)) : P (caseUdp b malformed dhcp other) := by
  unfold caseUdp
  split_ifs
  exacts [hm, hd _, ho _]

theorem caseOption_of_arms {b : Octets} {stop : α} {pad : Octets → α} {theEnd : α} {subnetMask router : Octets → Octets → α}
    {other : Octet → Octets → Octets → α} (hs : P stop) (hp : ∀ rest, P (pad rest)) (he : P theEnd)
    (hm : ∀ v rest, P (subnetMask v rest)) (hr : ∀ v rest, P (router v rest)) (ho : ∀ c v rest, P (other c v rest)) :
    P (caseOption b stop pad theEnd subnetMask router other) := by
  cases b with
  | nil => exact hs
  | cons code rest =>
    unfold caseOption
    cases rest with
    | nil =>
      dsimp only
      split_ifs
      exacts [he, hp _, hs]
    | cons n body =>
      dsimp only
      split_ifs
      exacts [he, hp _, hs, hm _ _, hr _ _, ho _ _ _]

theorem caseNoConn_of_arms {seg : TcpSeg} {syn other : α} (hs : P syn) (ho : P other) : P (caseNoConn seg syn other) := by
  unfold caseNoConn
  split_ifs
  exacts [hs, ho]

theorem caseState_of_arms {st : TcpState} {seg : TcpSeg} {listenSyn synSentSynack synReceivedAck establishedData establishedFin
      finWait1Ack finWait2Fin lastAckAck timeWaitAny noAction : α}
    (hl : P listenSyn) (hs : P synSentSynack) (hr : P synReceivedAck) (hd : P establishedData) (hf : P establishedFin)
    (h1 : P finWait1Ack) (h2 : P finWait2Fin) (hk : P lastAckAck) (ht : P timeWaitAny) (hn : P noAction) :
    P (caseState st seg listenSyn synSentSynack synReceivedAck establishedData establishedFin finWait1Ack finWait2Fin lastAckAck
      timeWaitAny noAction) := by
  cases st with
  | closed | closeWait | closing => exact hn
  | timeWait => exact ht
  | listen => exact iteInduction (fun _ => hl) fun _ => hn
  | synSent => exact iteInduction (fun _ => hs) fun _ => hn
  | synReceived => exact iteInduction (fun _ => hr) fun _ => hn
  | established => exact iteInduction (fun _ => hd) fun _ => iteInduction (fun _ => hf) fun _ => hn
  | finWait1 => exact iteInduction (fun _ => h1) fun _ => hn
  | finWait2 => exact iteInduction (fun _ => h2) fun _ => hn
  | lastAck => exact iteInduction (fun _ => hk) fun _ => hn

end

/-- What the two option arms that write keep, the whole walk keeps (R160, R265). -/
theorem runOptions_of_arms {P : State → Prop} (hm : ∀ v s, P s → P (optSubnetMask v s)) (hr : ∀ v s, P s → P (optRouter v s))
    (fuel : Nat) (b : Octets) (s : State) (h : P s) : P (runOptions fuel b s) := by
  induction fuel generalizing b s with
  | zero => exact h
  | succ fuel ih =>
    exact caseOption_of_arms h (fun _ => ih _ _ h) h (fun _ _ => ih _ _ (hm _ _ h)) (fun _ _ => ih _ _ (hr _ _ h))
      fun _ _ _ => ih _ _ h

end Sys2Proof.Machine

/-! PROOFS. The access summary (R39): which registers of the block each operation can write. -/

namespace Sys2Proof.Machine

/-- The registers of the block that R39 names, and the connection table; the flood counter is one register of two fields (R27). -/
inductive Register where
  | ownIp
  | gatewayIp
  | netmask
  | arpCache
  | nextEphemeral
  | flood
  | nextHandle
  | connTable

/-- The register holds in `t` what it holds in `s`. -/
def Register.Same (s t : State) : Register → Prop
  | .ownIp => t.ownIp = s.ownIp
  | .gatewayIp => t.gatewayIp = s.gatewayIp
  | .netmask => t.netmask = s.netmask
  | .arpCache => t.arpCache = s.arpCache
  | .nextEphemeral => t.nextEphemeral = s.nextEphemeral
  | .flood => t.synCount = s.synCount ∧ t.synBucketStart = s.synBucketStart
  | .nextHandle => t.nextHandle = s.nextHandle
  | .connTable => t.connTable = s.connTable

/-- From `s` to `t` every register outside the list keeps its value. -/
structure WritesOnly (w : List Register) (s t : State) : Prop where
  same_or_mem : ∀ r : Register, r.Same s t ∨ r ∈ w

/-- What R39 lets each instruction write. -/
def writtenBy : Instr → List Register
  | .ethRxIpv4 _ _ => [.ownIp, .gatewayIp, .netmask, .flood, .nextHandle, .connTable]
  | .ethRxIpv4Swapped _ _ => [.ownIp, .gatewayIp, .netmask, .flood, .nextHandle, .connTable]
  | .ethRxArp _ => [.arpCache]
  | .ethRxArpSwapped _ => [.arpCache]
  | .arpRxRequest _ _ _ => [.arpCache]
  | .arpRxOther _ _ _ _ => [.arpCache]
  | .ipRxTcp _ _ _ => [.flood, .nextHandle, .connTable]
  | .ipRxUdp _ _ => [.ownIp, .gatewayIp, .netmask]
  | .udpRxDhcpClient _ => [.ownIp, .gatewayIp, .netmask]
  | .dhcpOptSubnetMask _ => [.netmask]
  | .dhcpOptRouter _ => [.gatewayIp]
  | .tcpRxNoconnSyn _ _ _ => [.flood, .nextHandle, .connTable]
  | .tcpRxListenSyn _ _ => [.connTable]
  | .tcpRxSynSentSynack _ _ => [.connTable]
  | .tcpRxSynReceivedAck _ _ => [.connTable]
  | .tcpRxEstablishedData _ _ => [.connTable]
  | .tcpRxEstablishedFin _ _ => [.connTable]
  | .tcpRxFinWait1Ack _ _ => [.connTable]
  | .tcpRxFinWait2Fin _ _ => [.connTable]
  | .tcpRxLastAckAck _ _ => [.connTable]
  | .tcpRxTimeWaitAny _ _ => [.connTable]
  | .ipSetIp _ => [.ownIp]
  | .ipSetGateway _ => [.gatewayIp]
  | .ipSetNetmask _ => [.netmask]
  | .tcpListen _ => [.nextHandle, .connTable]
  | .tcpSend _ _ => [.connTable]
  | .tcpRecv _ _ => [.connTable]
  | .tcpClose _ => [.connTable]
  | .tcpConnect _ _ => [.nextEphemeral, .nextHandle, .connTable]
  | _ => []

/-! ### How writes compose -/

theorem WritesOnly.refl (w : List Register) (s : State) : WritesOnly w s s :=
  ⟨fun r => .inl (by cases r <;> simp [Register.Same])⟩

theorem WritesOnly.trans {w : List Register} {s t u : State} (h : WritesOnly w s t) (h' : WritesOnly w t u) : WritesOnly w s u := by
  refine ⟨fun r => ?_⟩
  rcases h.same_or_mem r, h'.same_or_mem r with ⟨hr | hr, hr' | hr'⟩
  · left
    cases r with
    | flood => exact ⟨hr'.1.trans hr.1, hr'.2.trans hr.2⟩
    | _ => exact Eq.trans hr' hr
  all_goals exact .inr ‹_›

theorem WritesOnly.mono {v w : List Register} {s t : State} (h : WritesOnly v s t) (hw : v ⊆ w) : WritesOnly w s t :=
  ⟨fun r => (h.same_or_mem r).imp_right (hw ·)⟩

/-! ### The operations that write no register: sends, log records, results -/

section

variable {w : List Register}

theorem emit_writesOnly (s : State) (e : Effect) : WritesOnly w s (s.emit e) :=
  ⟨fun r => .inl (by cases r <;> simp [Register.Same])⟩

theorem raiseDrop_writesOnly (s : State) (d : DropReason) : WritesOnly w s (s.raiseDrop d) :=
  ⟨fun r => .inl (by cases r <;> simp [Register.Same])⟩

theorem endRx_writesOnly (s : State) : WritesOnly w s s.endRx :=
  ⟨fun r => .inl (by cases r <;> simp [Register.Same])⟩

theorem ret_writesOnly (s : State) (v : RetVal) : WritesOnly w s (s.ret v) :=
  ⟨fun r => .inl (by cases r <;> simp [Register.Same])⟩

theorem ethSend_writesOnly (cfg : Config) (dest : Mac) (t : Word16) (p : Octets) (s : State) :
    WritesOnly w s (ethSend cfg dest t p s) :=
  ⟨fun r => .inl (by cases r <;> simp [Register.Same])⟩

theorem arpRequest_writesOnly (cfg : Config) (ip : Word32) (s : State) : WritesOnly w s (arpRequest cfg ip s) :=
  ethSend_writesOnly ..

theorem arpResolve_writesOnly (cfg : Config) (ip : Word32) (s : State) : WritesOnly w s (arpResolve cfg ip s) :=
  iteInduction (fun _ => .refl w s) fun _ => arpRequest_writesOnly ..

theorem ipSend_writesOnly (cfg : Config) (dest : Word32) (pr : Octet) (p : Octets) (s : State) :
    WritesOnly w s (ipSend cfg dest pr p s) := (arpResolve_writesOnly ..).trans (ethSend_writesOnly ..)

theorem udpSend_writesOnly (cfg : Config) (dest : Word32) (sp dp : Word16) (p : Octets) (s : State) :
    WritesOnly w s (udpSend cfg dest sp dp p s) := ipSend_writesOnly ..

theorem emitSeg_writesOnly (cfg : Config) (c : Conn) (fl : Octet) (d : Octets) (s : State) :
    WritesOnly w s (emitSeg cfg c fl d s) := ipSend_writesOnly ..

theorem icmpRx_writesOnly (src : Word32) (b : Octets) (s : State) : WritesOnly w s (icmpRx src b s) :=
  caseIcmp_of_arms (raiseDrop_writesOnly ..) (fun _ _ => (emit_writesOnly ..).trans (endRx_writesOnly _))
    fun _ => raiseDrop_writesOnly ..

end

/-! ### The writes of one register -/

theorem setOwnIp_writesOnly (s : State) (v : Word32) : WritesOnly [.ownIp] s (s.setOwnIp v) :=
  ⟨fun r => by cases r <;> simp [Register.Same]⟩

theorem setGatewayIp_writesOnly (s : State) (v : Word32) : WritesOnly [.gatewayIp] s (s.setGatewayIp v) :=
  ⟨fun r => by cases r <;> simp [Register.Same]⟩

theorem setNetmask_writesOnly (s : State) (v : Word32) : WritesOnly [.netmask] s (s.setNetmask v) :=
  ⟨fun r => by cases r <;> simp [Register.Same]⟩

theorem setArpCache_writesOnly (s : State) (ip : Word32) (m : Mac) : WritesOnly [.arpCache] s (s.setArpCache ip m) :=
  ⟨fun r => by cases r <;> simp [Register.Same]⟩

theorem stepEphemeral_writesOnly (s : State) : WritesOnly [.nextEphemeral] s s.stepEphemeral :=
  ⟨fun r => by cases r <;> simp [Register.Same]⟩

theorem countSyn_writesOnly (cfg : Config) (now : Nat) (s : State) : WritesOnly [.flood] s (countSyn cfg now s) :=
  ⟨fun r => by cases r <;> simp [Register.Same]⟩

theorem setConn_writesOnly (s : State) (c : Conn) : WritesOnly [.connTable] s (s.setConn c) :=
  ⟨fun r => by cases r <;> simp [Register.Same]⟩

theorem removeConn_writesOnly (s : State) (c : Conn) : WritesOnly [.connTable] s (s.removeConn c) :=
  ⟨fun r => by cases r <;> simp [Register.Same]⟩

theorem createConn_writesOnly {cfg : Config} {lip rip : Word32} {lp rp : Word16} {st : TcpState} {s t : State} {c : Conn}
    (h : createConn cfg lip rip lp rp st s = some (c, t)) : WritesOnly [.nextHandle, .connTable] s t := by
  obtain ⟨-, -, -, rfl⟩ := createConn_some h
  exact ⟨fun r => by cases r <;> simp [Register.Same]⟩

/-! ### ARP and DHCP -/

theorem arpLearn_writesOnly (sha : Mac) (spa tpa : Word32) (s : State) {after : State → State}
    (h : ∀ t, WritesOnly [.arpCache] t (after t)) : WritesOnly [.arpCache] s (arpLearn sha spa tpa s after) :=
  iteInduction (fun _ => raiseDrop_writesOnly ..)
    fun _ => ((setArpCache_writesOnly ..).trans (h _)).trans (endRx_writesOnly _)

theorem arpRxRequest_writesOnly (cfg : Config) (sha : Mac) (spa tpa : Word32) (s : State) :
    WritesOnly [.arpCache] s (arpRxRequest cfg sha spa tpa s) :=
  arpLearn_writesOnly sha spa tpa s fun _ => ethSend_writesOnly ..

theorem arpRxOther_writesOnly (op : Word16) (sha : Mac) (spa tpa : Word32) (s : State) :
    WritesOnly [.arpCache] s (arpRxOther op sha spa tpa s) :=
  arpLearn_writesOnly sha spa tpa s fun _ => .refl ..

theorem arpRx_writesOnly (cfg : Config) (p : Octets) (s : State) : WritesOnly [.arpCache] s (arpRx cfg p s) :=
  caseArp_of_arms (raiseDrop_writesOnly ..) (fun _ _ _ => arpRxRequest_writesOnly ..) fun _ _ _ _ => arpRxOther_writesOnly ..

theorem optSubnetMask_writesOnly (v : Octets) (s : State) : WritesOnly [.netmask] s (optSubnetMask v s) :=
  iteInduction (fun _ => setNetmask_writesOnly ..) fun _ => .refl ..

theorem optRouter_writesOnly (v : Octets) (s : State) : WritesOnly [.gatewayIp] s (optRouter v s) :=
  iteInduction (fun _ => setGatewayIp_writesOnly ..) fun _ => .refl ..

theorem runOptions_writesOnly (fuel : Nat) (b : Octets) (s : State) :
    WritesOnly [.gatewayIp, .netmask] s (runOptions fuel b s) :=
  runOptions_of_arms (fun v t h => h.trans ((optSubnetMask_writesOnly v t).mono (by simp)))
    (fun v t h => h.trans ((optRouter_writesOnly v t).mono (by simp))) fuel b s (.refl ..)

theorem dhcpRx_writesOnly (cfg : Config) (b : Octets) (s : State) :
    WritesOnly [.ownIp, .gatewayIp, .netmask] s (dhcpRx cfg b s) :=
  iteInduction (fun _ => raiseDrop_writesOnly ..) fun _ =>
    iteInduction (fun _ => raiseDrop_writesOnly ..) fun _ =>
      iteInduction (fun _ => raiseDrop_writesOnly ..) fun _ =>
        (((setOwnIp_writesOnly ..).mono (by simp)).trans ((runOptions_writesOnly ..).mono (by simp))).trans (endRx_writesOnly _)

theorem udpRx_writesOnly (cfg : Config) (b : Octets) (s : State) :
    WritesOnly [.ownIp, .gatewayIp, .netmask] s (udpRx cfg b s) :=
  caseUdp_of_arms (raiseDrop_writesOnly ..) (fun _ => dhcpRx_writesOnly ..) fun _ => raiseDrop_writesOnly ..

/-! ### TCP: an arm on a record writes the table alone -/

/-- How an arm that keeps its record ends: segments sent, the record put back, the event completed. -/
theorem setConn_endRx_writesOnly {s t : State} (c : Conn) (h : WritesOnly [.connTable] s t) :
    WritesOnly [.connTable] s (t.setConn c).endRx := (h.trans (setConn_writesOnly ..)).trans (endRx_writesOnly _)

theorem armListen_writesOnly (cfg : Config) (seg : TcpSeg) (c : Conn) (s : State) :
    WritesOnly [.connTable] s (armListen cfg seg c s) := setConn_endRx_writesOnly _ (emitSeg_writesOnly ..)

theorem armSynSent_writesOnly (cfg : Config) (seg : TcpSeg) (c : Conn) (s : State) :
    WritesOnly [.connTable] s (armSynSent cfg seg c s) := setConn_endRx_writesOnly _ (emitSeg_writesOnly ..)

theorem armSynReceived_writesOnly (c : Conn) (s : State) : WritesOnly [.connTable] s (armSynReceived c s) :=
  setConn_endRx_writesOnly _ (.refl ..)

theorem armEstablishedFin_writesOnly (cfg : Config) (seg : TcpSeg) (c : Conn) (s : State) :
    WritesOnly [.connTable] s (armEstablishedFin cfg seg c s) :=
  setConn_endRx_writesOnly _ ((emitSeg_writesOnly ..).trans (emitSeg_writesOnly ..))

theorem armEstablishedData_writesOnly (cfg : Config) (seg : TcpSeg) (c : Conn) (s : State) :
    WritesOnly [.connTable] s (armEstablishedData cfg seg c s) :=
  iteInduction (fun _ => (emitSeg_writesOnly ..).trans (armEstablishedFin_writesOnly ..))
    fun _ => setConn_endRx_writesOnly _ (emitSeg_writesOnly ..)

theorem armFinWait1_writesOnly (c : Conn) (s : State) : WritesOnly [.connTable] s (armFinWait1 c s) :=
  setConn_endRx_writesOnly _ (.refl ..)

theorem armFinWait2_writesOnly (cfg : Config) (seg : TcpSeg) (c : Conn) (s : State) :
    WritesOnly [.connTable] s (armFinWait2 cfg seg c s) := setConn_endRx_writesOnly _ (emitSeg_writesOnly ..)

/-- LAST_ACK + ACK and TIME_WAIT end alike (R308, R309). -/
theorem removeConn_endRx_writesOnly (c : Conn) (s : State) : WritesOnly [.connTable] s (s.removeConn c).endRx :=
  (removeConn_writesOnly ..).trans (endRx_writesOnly _)

theorem stateArm_writesOnly (cfg : Config) (seg : TcpSeg) (c : Conn) (s : State) :
    WritesOnly [.connTable] s (stateArm cfg seg c s) :=
  caseState_of_arms (armListen_writesOnly ..) (armSynSent_writesOnly ..) (armSynReceived_writesOnly ..)
    (armEstablishedData_writesOnly ..) (armEstablishedFin_writesOnly ..) (armFinWait1_writesOnly ..) (armFinWait2_writesOnly ..)
    (removeConn_endRx_writesOnly ..) (removeConn_endRx_writesOnly ..) (raiseDrop_writesOnly ..)

theorem noConnSyn_writesOnly (cfg : Config) (src : Word32) (seg : TcpSeg) (now : Nat) (s : State) :
    WritesOnly [.flood, .nextHandle, .connTable] s (noConnSyn cfg src seg now s) := by
  refine ((countSyn_writesOnly cfg now s).mono (by simp)).trans ?_
  unfold noConnSyn
  dsimp only
  split
  · exact (emit_writesOnly ..).trans (raiseDrop_writesOnly ..)
  · split
    · exact raiseDrop_writesOnly ..
    · rename_i hc
      exact ((createConn_writesOnly hc).mono (by simp)).trans ((armListen_writesOnly ..).mono (by simp))

theorem tcpRx_writesOnly (cfg : Config) (src : Word32) (b : Octets) (now : Nat) (s : State) :
    WritesOnly [.flood, .nextHandle, .connTable] s (tcpRx cfg src b now s) := by
  unfold tcpRx
  split
  · exact raiseDrop_writesOnly ..
  · split
    · exact caseNoConn_of_arms (noConnSyn_writesOnly ..) (raiseDrop_writesOnly ..)
    · exact (stateArm_writesOnly ..).mono (by simp)

theorem ipRx_writesOnly (cfg : Config) (b : Octets) (now : Nat) (s : State) :
    WritesOnly [.ownIp, .gatewayIp, .netmask, .flood, .nextHandle, .connTable] s (ipRx cfg b now s) :=
  caseIp_of_arms (raiseDrop_writesOnly ..) (fun _ _ => icmpRx_writesOnly ..)
    (fun _ _ => (tcpRx_writesOnly ..).mono (by simp)) (fun _ _ => (udpRx_writesOnly ..).mono (by simp))
    fun _ => raiseDrop_writesOnly ..

/-! ### TCP: the commands -/

theorem tcpListen_writesOnly (cfg : Config) (port : Word16) (s : State) :
    WritesOnly [.nextHandle, .connTable] s (tcpListen cfg port s) := by
  unfold tcpListen
  split
  · exact ret_writesOnly ..
  · exact (createConn_writesOnly ‹_›).trans (ret_writesOnly ..)

theorem tcpAccept_writesOnly {w : List Register} (h : Int) (s : State) : WritesOnly w s (tcpAccept h s) := by
  unfold tcpAccept
  split <;> exact ret_writesOnly ..

theorem tcpSend_writesOnly (cfg : Config) (h : Int) (data : Octets) (s : State) :
    OnNext (WritesOnly [.connTable] s) (tcpSend cfg h data s) := by
  unfold tcpSend
  split
  · exact onNext_next (ret_writesOnly ..)
  · refine iteInduction (fun _ => onNext_next (ret_writesOnly ..)) fun _ => onNext_ite_refused fun _ => onNext_next ?_
    exact ((emitSeg_writesOnly ..).trans (setConn_writesOnly ..)).trans (ret_writesOnly ..)

theorem tcpRecv_writesOnly (cfg : Config) (h : Int) (maxlen : Nat) (s : State) :
    WritesOnly [.connTable] s (tcpRecv cfg h maxlen s) := by
  unfold tcpRecv
  split
  · exact ret_writesOnly ..
  · exact (setConn_writesOnly ..).trans (ret_writesOnly ..)

theorem tcpClose_writesOnly (cfg : Config) (h : Int) (s : State) : WritesOnly [.connTable] s (tcpClose cfg h s) := by
  unfold tcpClose
  split
  · exact ret_writesOnly ..
  · split
    · exact ((emitSeg_writesOnly ..).trans (setConn_writesOnly ..)).trans (ret_writesOnly ..)
    · exact (removeConn_writesOnly ..).trans (ret_writesOnly ..)

theorem tcpConnect_writesOnly (cfg : Config) (ip : Word32) (port : Word16) (s : State) :
    WritesOnly [.nextEphemeral, .nextHandle, .connTable] s (tcpConnect cfg ip port s) := by
  refine ((stepEphemeral_writesOnly s).mono (by simp)).trans ?_
  unfold tcpConnect
  split
  · exact ret_writesOnly ..
  · rename_i hc
    refine ((createConn_writesOnly hc).mono (by simp)).trans ?_
    exact ((emitSeg_writesOnly ..).trans ((setConn_writesOnly ..).mono (by simp))).trans (ret_writesOnly ..)

/-! ### Every instruction -/

/-- R39: no instruction writes a register outside its row of the access summary. -/
theorem exec_writesOnly (i : Instr) (s : State) : OnNext (WritesOnly (writtenBy i) s) (exec i s) :=
  match i with
  | .ethRxIpv4 _ _ => onNext_next (ipRx_writesOnly ..)
  | .ethRxIpv4Swapped _ _ => onNext_next (ipRx_writesOnly ..)
  | .ethRxArp _ => onNext_next (arpRx_writesOnly ..)
  | .ethRxArpSwapped _ => onNext_next (arpRx_writesOnly ..)
  | .ethRxUnknown _ => onNext_next (raiseDrop_writesOnly ..)
  | .arpRxRequest _ _ _ => onNext_next (arpRxRequest_writesOnly ..)
  | .arpRxOther _ _ _ _ => onNext_next (arpRxOther_writesOnly ..)
  | .ipRxIcmp _ _ => onNext_next (icmpRx_writesOnly ..)
  | .ipRxTcp _ _ _ => onNext_next (tcpRx_writesOnly ..)
  | .ipRxUdp _ _ => onNext_next (udpRx_writesOnly ..)
  | .ipRxUnknown _ => onNext_next (raiseDrop_writesOnly ..)
  | .icmpRxEchoReply _ _ _ => onNext_next ((emit_writesOnly ..).trans (endRx_writesOnly _))
  | .icmpRxOther _ => onNext_next (raiseDrop_writesOnly ..)
  | .udpRxDhcpClient _ => onNext_next (dhcpRx_writesOnly ..)
  | .udpRxOther _ => onNext_next (raiseDrop_writesOnly ..)
  | .dhcpOptPad => onNext_next (.refl ..)
  | .dhcpOptEnd => onNext_next (.refl ..)
  | .dhcpOptSubnetMask _ => onNext_next (optSubnetMask_writesOnly ..)
  | .dhcpOptRouter _ => onNext_next (optRouter_writesOnly ..)
  | .dhcpOptOther _ _ => onNext_next (.refl ..)
  | .tcpRxNoconnSyn _ _ _ => onNext_onNoConn (noConnSyn_writesOnly ..)
  | .tcpRxNoconnOther _ _ => onNext_onNoConn (raiseDrop_writesOnly ..)
  | .tcpRxListenSyn _ _ => onNext_onConn fun _ _ => armListen_writesOnly ..
  | .tcpRxSynSentSynack _ _ => onNext_onConn fun _ _ => armSynSent_writesOnly ..
  | .tcpRxSynReceivedAck _ _ => onNext_onConn fun _ _ => armSynReceived_writesOnly ..
  | .tcpRxEstablishedData _ _ => onNext_onConn fun _ _ => armEstablishedData_writesOnly ..
  | .tcpRxEstablishedFin _ _ => onNext_onConn fun _ _ => armEstablishedFin_writesOnly ..
  | .tcpRxFinWait1Ack _ _ => onNext_onConn fun _ _ => armFinWait1_writesOnly ..
  | .tcpRxFinWait2Fin _ _ => onNext_onConn fun _ _ => armFinWait2_writesOnly ..
  | .tcpRxLastAckAck _ _ => onNext_onConn fun _ _ => removeConn_endRx_writesOnly ..
  | .tcpRxTimeWaitAny _ _ => onNext_onConn fun _ _ => removeConn_endRx_writesOnly ..
  | .tcpRxNoAction _ _ _ => onNext_onConn fun _ _ => raiseDrop_writesOnly ..
  | .ethSend _ _ _ => onNext_next ((ethSend_writesOnly ..).trans (ret_writesOnly ..))
  | .arpResolve _ => onNext_next ((arpResolve_writesOnly ..).trans (ret_writesOnly ..))
  | .arpRequest _ => onNext_next ((arpRequest_writesOnly ..).trans (ret_writesOnly ..))
  | .ipSend _ _ _ => onNext_ite_refused fun _ => onNext_next ((ipSend_writesOnly ..).trans (ret_writesOnly ..))
  | .icmpEcho _ _ _ => onNext_next ((ipSend_writesOnly ..).trans (ret_writesOnly ..))
  | .udpSend _ _ _ _ => onNext_ite_refused fun _ => onNext_next ((udpSend_writesOnly ..).trans (ret_writesOnly ..))
  | .dhcpDiscover => onNext_next ((udpSend_writesOnly ..).trans (ret_writesOnly ..))
  | .ipGetIp => onNext_next (ret_writesOnly ..)
  | .ipGetGateway => onNext_next (ret_writesOnly ..)
  | .ipGetNetmask => onNext_next (ret_writesOnly ..)
  | .ipSetIp _ => onNext_next ((setOwnIp_writesOnly ..).trans (ret_writesOnly ..))
  | .ipSetGateway _ => onNext_next ((setGatewayIp_writesOnly ..).trans (ret_writesOnly ..))
  | .ipSetNetmask _ => onNext_next ((setNetmask_writesOnly ..).trans (ret_writesOnly ..))
  | .tcpListen _ => onNext_next (tcpListen_writesOnly ..)
  | .tcpAccept _ => onNext_next (tcpAccept_writesOnly ..)
  | .tcpSend _ _ => tcpSend_writesOnly _ _ _ _
  | .tcpRecv _ _ => onNext_next (tcpRecv_writesOnly ..)
  | .tcpClose _ => onNext_next (tcpClose_writesOnly ..)
  | .tcpConnect _ _ => onNext_next (tcpConnect_writesOnly ..)

/-! ### The columns of the table: who may write a register -/

theorem ownIp_mem_writtenBy (i : Instr) : .ownIp ∈ writtenBy i ↔ canRunDhcp i ∨ ∃ v, i = .ipSetIp v := by
  cases i <;> simp [writtenBy, canRunDhcp]

theorem gatewayIp_mem_writtenBy (i : Instr) :
    .gatewayIp ∈ writtenBy i ↔ canRunDhcp i ∨ (∃ v, i = .dhcpOptRouter v) ∨ ∃ v, i = .ipSetGateway v := by
  cases i <;> simp [writtenBy, canRunDhcp]

theorem netmask_mem_writtenBy (i : Instr) :
    .netmask ∈ writtenBy i ↔ canRunDhcp i ∨ (∃ v, i = .dhcpOptSubnetMask v) ∨ ∃ v, i = .ipSetNetmask v := by
  cases i <;> simp [writtenBy, canRunDhcp]

theorem arpCache_mem_writtenBy (i : Instr) : .arpCache ∈ writtenBy i ↔ canRunArp i := by
  cases i <;> simp [writtenBy, canRunArp]

theorem nextEphemeral_mem_writtenBy (i : Instr) : .nextEphemeral ∈ writtenBy i ↔ ∃ ip port, i = .tcpConnect ip port := by
  cases i <;> simp [writtenBy]

theorem flood_mem_writtenBy (i : Instr) : .flood ∈ writtenBy i ↔ canCountSyn i := by
  cases i <;> simp [writtenBy, canCountSyn]

theorem nextHandle_mem_writtenBy (i : Instr) :
    .nextHandle ∈ writtenBy i ↔ canCountSyn i ∨ (∃ port, i = .tcpListen port) ∨ ∃ ip port, i = .tcpConnect ip port := by
  cases i <;> simp [writtenBy, canCountSyn]

/-- Settles O57: the access summary read register by register. -/
theorem onlyListedWriters : Obligations.OnlyListedWriters := by
  intro i s t h
  obtain ⟨hw⟩ : WritesOnly (writtenBy i) s t := exec_writesOnly i s t h
  exact ⟨(hw .ownIp).imp_right (ownIp_mem_writtenBy i).mp, (hw .gatewayIp).imp_right (gatewayIp_mem_writtenBy i).mp,
    (hw .netmask).imp_right (netmask_mem_writtenBy i).mp, (hw .arpCache).imp_right (arpCache_mem_writtenBy i).mp,
    (hw .nextEphemeral).imp_right (nextEphemeral_mem_writtenBy i).mp, (hw .flood).imp_right (flood_mem_writtenBy i).mp,
    (hw .nextHandle).imp_right (nextHandle_mem_writtenBy i).mp⟩

end Sys2Proof.Machine

/-! PROOFS. The invariants of one record (R30, R32, R33): creation meets them, and every write an arm or a command makes keeps them. -/

namespace Sys2Proof.Machine

theorem connOk_newConn (cfg : Config) (handle : Nat) (lip rip : Word32) (lp rp : Word16) (st : TcpState) (isn : Word32) :
    ConnOk cfg (newConn cfg handle lip rip lp rp st isn) where
  window := Nat.zero_le _
  windowEnd := rfl
  count := Nat.zero_le _
  start := cfg.rxbufCap_pos
  ringEnd := (Nat.zero_mod _).symm
  bufWf := Memory.wf_nil
  bufInside := by simp [newConn]

namespace ConnOk

variable {cfg : Config} {c : Conn} (h : ConnOk cfg c)

include h

theorem recvEnd_lt : c.recvEnd < cfg.rxbufCap := h.ringEnd ▸ Nat.mod_lt _ cfg.rxbufCap_pos

/-- The invariants of a record say nothing of its state, its sequence numbers and its time stamp. -/
theorem write (st : TcpState) (q a : Word32) (now : Nat) :
    ConnOk cfg { c with state := st, seqNumber := q, ackNumber := a, synTimestamp := now } :=
  ⟨h.window, h.windowEnd, h.count, h.start, h.ringEnd, h.bufWf, h.bufInside⟩

/-- Sending no more than the usable window keeps the window's start at or before its end (R33, R346). -/
theorem send (q : Word32) {n : Nat} (hn : n ≤ c.usableWindow) :
    ConnOk cfg { c with seqNumber := q, sendWindowStart := c.sendWindowStart + n } where
  window := by
    have hw := h.window
    have hn' : n ≤ c.sendWindowEnd - c.sendWindowStart := hn
    show c.sendWindowStart + n ≤ c.sendWindowEnd
    omega
  windowEnd := h.windowEnd
  count := h.count
  start := h.start
  ringEnd := h.ringEnd
  bufWf := h.bufWf
  bufInside := h.bufInside

/-- `RingPush` keeps the ring in shape: it takes no more than there is room for, and its end stays `count` after its start (R32). -/
theorem push (d : Octets) : ConnOk cfg (ringPush cfg c d).2 := by
  rw [ringPush_frame]
  refine ⟨h.window, h.windowEnd, ?count, h.start, ?ringEnd, ringStore_wf _ _ c h.bufWf,
    ringStore_inside _ _ c h.recvEnd_lt h.bufInside⟩
  case count =>
    have := h.count
    show c.recvCount + min d.length (cfg.rxbufCap - c.recvCount) ≤ cfg.rxbufCap
    omega
  case ringEnd =>
    show (ringStore cfg.rxbufCap (d.take _) c).recvEnd = (c.recvStart + (c.recvCount + _)) % cfg.rxbufCap
    rw [ringStore_recvEnd _ _ c h.recvEnd_lt, List.length_take, Nat.min_eq_left (Nat.min_le_left _ _), h.ringEnd,
      Nat.mod_add_mod, Nat.add_assoc]

/-- `RingPop` keeps the ring in shape: what it takes off the front leaves the end where it was (R32). -/
theorem pop (n : Nat) : ConnOk cfg (ringPop cfg c n).2 := by
  have hstart : (ringPop cfg c n).2.recvStart = (c.recvStart + min n c.recvCount) % cfg.rxbufCap := ringAdvance_eq _ _ _ h.start
  rw [ringPop_frame, hstart]
  refine ⟨h.window, h.windowEnd, (Nat.sub_le _ _).trans h.count, Nat.mod_lt _ cfg.rxbufCap_pos, ?ringEnd, h.bufWf, h.bufInside⟩
  show c.recvEnd = ((c.recvStart + min n c.recvCount) % cfg.rxbufCap + (c.recvCount - min n c.recvCount)) % cfg.rxbufCap
  rw [Nat.mod_add_mod, h.ringEnd]
  congr 1
  omega

end ConnOk

end Sys2Proof.Machine

/-! PROOFS. The invariants of the state (R35, R402): every operation keeps them, and so does a step. -/

namespace Sys2Proof.Machine

/-! ### The table -/

/-- The 4-tuple of a record (R18). -/
def Conn.tuple (c : Conn) : Word32 × Word32 × Word16 × Word16 := (c.localIp, c.remoteIp, c.localPort, c.remotePort)

theorem sameTuple_iff {c d : Conn} : sameTuple c d ↔ c.tuple = d.tuple := by simp [sameTuple, Conn.tuple]

/-- The record an operation works on: in shape itself, and the table has a record under its handle with its 4-tuple. -/
structure InHand (cfg : Config) (s : State) (c : Conn) : Prop where
  ok : ConnOk cfg c
  inTable : ∃ e ∈ s.connTable, e.handle = c.handle ∧ e.tuple = c.tuple

section

variable {cfg : Config} {s t : State} {c : Conn}

theorem State.Inv.inHand (hi : s.Inv cfg) (hc : c ∈ s.connTable) : InHand cfg s c := ⟨hi.conns c hc, c, hc, rfl, rfl⟩

/-- A record changed under its own name. -/
theorem InHand.replace {d : Conn} (h : InHand cfg s c) (hd : ConnOk cfg d) (hh : c.handle = d.handle) (ht : c.tuple = d.tuple) :
    InHand cfg s d := by
  obtain ⟨-, e, he, hhe, hte⟩ := h
  exact ⟨hd, e, he, hhe.trans hh, hte.trans ht⟩

theorem InHand.write (h : InHand cfg s c) (st : TcpState) (q a : Word32) (now : Nat) :
    InHand cfg s { c with state := st, seqNumber := q, ackNumber := a, synTimestamp := now } :=
  h.replace (h.ok.write st q a now) rfl rfl

/-- What `ArmEstablished` stores leaves the record in hand (R304). -/
theorem InHand.dataStored (h : InHand cfg s c) (seg : TcpSeg) : InHand cfg s (dataStored cfg seg c) := by
  have hf := ringPush_frame cfg c seg.data
  have hp : InHand cfg s (ringPush cfg c seg.data).2 :=
    h.replace (h.ok.push seg.data) (congrArg Conn.handle hf).symm (congrArg Conn.tuple hf).symm
  exact hp.write _ _ _ _

/-- Writes outside the table leave the record in hand. -/
theorem InHand.of_writesOnly {w : List Register} (h : InHand cfg s c) (hw : WritesOnly w s t) (hc : .connTable ∉ w) :
    InHand cfg t c := by
  have hct : t.connTable = s.connTable := (hw.same_or_mem .connTable).resolve_right hc
  exact ⟨h.ok, hct ▸ h.inTable⟩

namespace State.Inv

variable (hi : s.Inv cfg)

include hi

/-- The invariants are about the table and `next_handle` alone. -/
theorem of_writesOnly {w : List Register} (hw : WritesOnly w s t) (hc : .connTable ∉ w) (hn : .nextHandle ∉ w) : t.Inv cfg := by
  have hct : t.connTable = s.connTable := (hw.same_or_mem .connTable).resolve_right hc
  have hnh : t.nextHandle = s.nextHandle := (hw.same_or_mem .nextHandle).resolve_right hn
  exact ⟨hct ▸ hi.conns, hct ▸ hi.tuples, hct ▸ hi.handles, by rw [hct, hnh]; exact hi.fresh, hct ▸ hi.capacity⟩

/-- Sends, log records and results keep the invariants. -/
theorem quiet (hw : WritesOnly [] s t) : t.Inv cfg := hi.of_writesOnly hw List.not_mem_nil List.not_mem_nil

/-- A handle names one record at most. -/
theorem eq_of_handle_eq {d e : Conn} (hd : d ∈ s.connTable) (he : e ∈ s.connTable) (h : d.handle = e.handle) : d = e :=
  List.inj_on_of_nodup_map (List.pairwise_map.mpr (hi.handles.imp Nat.ne_of_lt)) hd he h

/-- Putting a record back under its name changes no 4-tuple of the table. -/
theorem setConn_tuples (hc : InHand cfg s c) : (s.setConn c).connTable.map Conn.tuple = s.connTable.map Conn.tuple := by
  obtain ⟨-, e, he, hhe, hte⟩ := hc
  rw [State.setConn_connTable, List.map_map]
  refine List.map_congr_left fun d hd => ?_
  simp only [Function.comp_apply]
  split
  · rw [hi.eq_of_handle_eq hd he (‹d.handle = c.handle›.trans hhe.symm), hte]
  · rfl

theorem setConn (hc : InHand cfg s c) : (s.setConn c).Inv cfg where
  conns d hd := by
    rcases mem_setConn hd with ⟨rfl, -⟩ | ⟨hd, -⟩
    · exact hc.ok
    · exact hi.conns d hd
  tuples := by
    have hs := hi.tuples
    simp only [sameTuple_iff] at hs ⊢
    rw [← List.pairwise_map (R := fun x y => ¬ x = y)] at hs ⊢
    rwa [hi.setConn_tuples hc]
  handles := by
    have hs := hi.handles
    rw [← List.pairwise_map (R := (· < ·))] at hs ⊢
    rwa [setConn_handles]
  fresh d hd := by
    rcases mem_setConn hd with ⟨rfl, e, he, hh⟩ | ⟨hd, -⟩
    · exact hh ▸ hi.fresh e he
    · exact hi.fresh d hd
  capacity n hn := by
    rw [setConn_length]
    exact hi.capacity n hn

theorem removeConn (c : Conn) : (s.removeConn c).Inv cfg where
  conns d hd := hi.conns d (mem_removeConn.mp hd).1
  tuples := hi.tuples.filter _
  handles := hi.handles.filter _
  fresh d hd := hi.fresh d (mem_removeConn.mp hd).1
  capacity n hn := (List.length_filter_le _ _).trans (hi.capacity n hn)

/-- The record created is in shape, its handle is above every handle given out, its 4-tuple is new, and there was room (R295). -/
theorem createConn {lip rip : Word32} {lp rp : Word16} {st : TcpState}
    (h : createConn cfg lip rip lp rp st s = some (c, t)) : t.Inv cfg ∧ InHand cfg t c := by
  obtain ⟨hnone, hroom, rfl, rfl⟩ := createConn_some h
  have hok := connOk_newConn cfg s.nextHandle lip rip lp rp st (cfg.isn s.isnDraws)
  refine ⟨⟨?conns, ?tuples, ?handles, ?fresh, ?capacity⟩, hok, _, List.mem_append_right _ (List.mem_singleton_self _), rfl, rfl⟩
  case conns =>
    rintro d hd
    rcases List.mem_append.mp hd with hd | hd
    · exact hi.conns d hd
    · rwa [List.mem_singleton.mp hd]
  case tuples =>
    refine List.pairwise_append.mpr ⟨hi.tuples, List.pairwise_singleton _ _, fun d hd e he => ?_⟩
    rw [List.mem_singleton.mp he]
    exact lookup_none hnone d hd
  case handles =>
    refine List.pairwise_append.mpr ⟨hi.handles, List.pairwise_singleton _ _, fun d hd e he => ?_⟩
    rw [List.mem_singleton.mp he]
    exact hi.fresh d hd
  case fresh =>
    intro d hd
    rcases List.mem_append.mp hd with hd | hd
    · exact Nat.lt_succ_of_lt (hi.fresh d hd)
    · rw [List.mem_singleton.mp hd]
      exact Nat.lt_succ_self _
  case capacity =>
    intro n hn
    have hlt : s.connTable.length < n := by simpa [State.tableFull, hn] using hroom
    simpa using hlt

end State.Inv

/-! ### The arms of TCP's receive table -/

section

variable {seg : TcpSeg} (hi : s.Inv cfg) (hc : InHand cfg s c)

include hi hc

/-- Segments sent, then the record in hand put back. -/
theorem inv_setConn_of_quiet (hw : WritesOnly [] s t) : (t.setConn c).Inv cfg :=
  (hi.quiet hw).setConn (hc.of_writesOnly hw List.not_mem_nil)

theorem inv_setConn_endRx (hw : WritesOnly [] s t) : (t.setConn c).endRx.Inv cfg :=
  (inv_setConn_of_quiet hi hc hw).quiet (endRx_writesOnly _)

theorem armListen_inv : (armListen cfg seg c s).Inv cfg :=
  inv_setConn_endRx hi (hc.write _ _ _ _) (emitSeg_writesOnly ..)

theorem armSynSent_inv : (armSynSent cfg seg c s).Inv cfg :=
  inv_setConn_endRx hi (hc.write _ _ _ _) (emitSeg_writesOnly ..)

theorem armSynReceived_inv : (armSynReceived c s).Inv cfg :=
  inv_setConn_endRx hi (hc.write _ _ _ _) (.refl ..)

theorem armEstablishedFin_inv : (armEstablishedFin cfg seg c s).Inv cfg :=
  inv_setConn_endRx hi (hc.write _ _ _ _) ((emitSeg_writesOnly ..).trans (emitSeg_writesOnly ..))

theorem armEstablishedData_inv : (armEstablishedData cfg seg c s).Inv cfg := by
  have hsent := emitSeg_writesOnly (w := []) cfg (dataStored cfg seg c) flagAck [] s
  have honce : InHand cfg s ((dataStored cfg seg c).countSegment flagAck []) := (hc.dataStored seg).write _ _ _ _
  exact iteInduction (fun _ => armEstablishedFin_inv (hi.quiet hsent) (honce.of_writesOnly hsent List.not_mem_nil))
    fun _ => inv_setConn_endRx hi honce hsent

theorem armFinWait1_inv : (armFinWait1 c s).Inv cfg :=
  inv_setConn_endRx hi (hc.write _ _ _ _) (.refl ..)

theorem armFinWait2_inv : (armFinWait2 cfg seg c s).Inv cfg :=
  inv_setConn_endRx hi (hc.write _ _ _ _) (emitSeg_writesOnly ..)

omit hc in
theorem inv_removeConn_endRx (c : Conn) : (s.removeConn c).endRx.Inv cfg := (hi.removeConn c).quiet (endRx_writesOnly _)

theorem stateArm_inv : (stateArm cfg seg c s).Inv cfg :=
  caseState_of_arms (P := State.Inv cfg) (armListen_inv hi hc) (armSynSent_inv hi hc) (armSynReceived_inv hi hc)
    (armEstablishedData_inv hi hc) (armEstablishedFin_inv hi hc) (armFinWait1_inv hi hc) (armFinWait2_inv hi hc)
    (inv_removeConn_endRx hi c) (inv_removeConn_endRx hi c) (hi.quiet (raiseDrop_writesOnly ..))

end

/-! ### The operations that write the table -/

variable (hi : s.Inv cfg)

include hi

theorem noConnSyn_inv (src : Word32) (seg : TcpSeg) (now : Nat) : (noConnSyn cfg src seg now s).Inv cfg := by
  have hcounted : (countSyn cfg now s).Inv cfg := hi.of_writesOnly (countSyn_writesOnly ..) (by simp) (by simp)
  unfold noConnSyn
  dsimp only
  split
  · exact hcounted.quiet ((emit_writesOnly ..).trans (raiseDrop_writesOnly ..))
  · split
    · exact hcounted.quiet (raiseDrop_writesOnly ..)
    · rename_i hcreate
      obtain ⟨hcreated, hc⟩ := hcounted.createConn hcreate
      exact armListen_inv hcreated (hc.write _ _ _ _)

theorem tcpRx_inv (src : Word32) (b : Octets) (now : Nat) : (tcpRx cfg src b now s).Inv cfg := by
  unfold tcpRx
  split
  · exact hi.quiet (raiseDrop_writesOnly ..)
  · split
    · exact caseNoConn_of_arms (P := State.Inv cfg) (noConnSyn_inv hi _ _ _) (hi.quiet (raiseDrop_writesOnly ..))
    · rename_i hfound
      exact stateArm_inv hi (hi.inHand (lookup_some hfound).1)

theorem ipRx_inv (b : Octets) (now : Nat) : (ipRx cfg b now s).Inv cfg :=
  caseIp_of_arms (P := State.Inv cfg) (hi.quiet (raiseDrop_writesOnly ..)) (fun _ _ => hi.quiet (icmpRx_writesOnly ..))
    (fun src p => tcpRx_inv hi src p now) (fun _ _ => hi.of_writesOnly (udpRx_writesOnly ..) (by simp) (by simp))
    fun _ => hi.quiet (raiseDrop_writesOnly ..)

theorem tcpListen_inv (port : Word16) : (tcpListen cfg port s).Inv cfg := by
  unfold tcpListen
  split
  · exact hi.quiet (ret_writesOnly ..)
  · exact (hi.createConn ‹_›).1.quiet (ret_writesOnly ..)

theorem tcpSend_inv (h : Int) (data : Octets) : OnNext (State.Inv cfg) (tcpSend cfg h data s) := by
  unfold tcpSend
  split
  · exact onNext_next (hi.quiet (ret_writesOnly ..))
  · rename_i c hfound
    refine iteInduction (fun _ => onNext_next (hi.quiet (ret_writesOnly ..))) fun _ =>
      onNext_ite_refused fun _ => onNext_next ?_
    have hc := hi.inHand (establishedByHandle_some hfound).1
    have hfits : (sendableData c data).length ≤ c.usableWindow :=
      (List.length_take_le _ _).trans (Nat.min_le_right _ _)
    exact (inv_setConn_of_quiet hi (hc.replace (hc.ok.send _ hfits) rfl rfl) (emitSeg_writesOnly ..)).quiet (ret_writesOnly ..)

theorem tcpRecv_inv (h : Int) (maxlen : Nat) : (tcpRecv cfg h maxlen s).Inv cfg := by
  unfold tcpRecv
  split
  · exact hi.quiet (ret_writesOnly ..)
  · rename_i c hfound
    have hc := hi.inHand (establishedByHandle_some hfound).1
    exact (hi.setConn (hc.replace (hc.ok.pop maxlen) rfl rfl)).quiet (ret_writesOnly ..)

theorem tcpClose_inv (h : Int) : (tcpClose cfg h s).Inv cfg := by
  unfold tcpClose
  split
  · exact hi.quiet (ret_writesOnly ..)
  · rename_i c hfound
    have hc := hi.inHand (byHandle_some hfound).1
    split
    · exact (inv_setConn_of_quiet hi (hc.write _ _ _ _) (emitSeg_writesOnly ..)).quiet (ret_writesOnly ..)
    · exact (hi.removeConn c).quiet (ret_writesOnly ..)

theorem tcpConnect_inv (ip : Word32) (port : Word16) : (tcpConnect cfg ip port s).Inv cfg := by
  have hstepped : s.stepEphemeral.Inv cfg := hi.of_writesOnly (stepEphemeral_writesOnly s) (by simp) (by simp)
  unfold tcpConnect
  split
  · exact hstepped.quiet (ret_writesOnly ..)
  · rename_i hcreate
    obtain ⟨hcreated, hc⟩ := hstepped.createConn hcreate
    exact (inv_setConn_of_quiet hcreated (hc.write _ _ _ _) (emitSeg_writesOnly ..)).quiet (ret_writesOnly ..)

end

/-! ### Every instruction, every step -/

/-- An instruction that can write the table or `next_handle` has its own lemma; the rest write neither (R39). -/
theorem exec_inv {s : State} (hi : s.Inv Config.chip) (i : Instr) : OnNext (State.Inv Config.chip) (exec i s) := by
  have found {src : Word32} {seg : TcpSeg} {c : Conn} (h : s.lookupSegment src seg = some c) : InHand Config.chip s c :=
    hi.inHand (lookup_some h).1
  cases i with
  | ethRxIpv4 p now => exact onNext_next (ipRx_inv hi p now)
  | ethRxIpv4Swapped p now => exact onNext_next (ipRx_inv hi p now)
  | ipRxTcp src p now => exact onNext_next (tcpRx_inv hi src p now)
  | tcpRxNoconnSyn src seg now => exact onNext_onNoConn (noConnSyn_inv hi src seg now)
  | tcpRxListenSyn => exact onNext_onConn fun _ h => armListen_inv hi (found h)
  | tcpRxSynSentSynack => exact onNext_onConn fun _ h => armSynSent_inv hi (found h)
  | tcpRxSynReceivedAck => exact onNext_onConn fun _ h => armSynReceived_inv hi (found h)
  | tcpRxEstablishedData => exact onNext_onConn fun _ h => armEstablishedData_inv hi (found h)
  | tcpRxEstablishedFin => exact onNext_onConn fun _ h => armEstablishedFin_inv hi (found h)
  | tcpRxFinWait1Ack => exact onNext_onConn fun _ h => armFinWait1_inv hi (found h)
  | tcpRxFinWait2Fin => exact onNext_onConn fun _ h => armFinWait2_inv hi (found h)
  | tcpRxLastAckAck => exact onNext_onConn fun c _ => inv_removeConn_endRx hi c
  | tcpRxTimeWaitAny => exact onNext_onConn fun c _ => inv_removeConn_endRx hi c
  | tcpListen port => exact onNext_next (tcpListen_inv hi port)
  | tcpSend h data => exact tcpSend_inv hi h data
  | tcpRecv h maxlen => exact onNext_next (tcpRecv_inv hi h maxlen)
  | tcpClose h => exact onNext_next (tcpClose_inv hi h)
  | tcpConnect ip port => exact onNext_next (tcpConnect_inv hi ip port)
  | _ => exact fun t h => hi.of_writesOnly (exec_writesOnly _ s t h) (by simp [writtenBy]) (by simp [writtenBy])

/-- Settles O55: the three ways a step answers a next state, each inside the invariants. -/
theorem stepKeepsInvariants : Obligations.StepKeepsInvariants := by
  intro s t hi
  have hdropped : s.dropPending.Inv Config.chip := hi.quiet ⟨fun r => .inl (by cases r <;> simp [Register.Same])⟩
  exact onNext_step hi (exec_inv hdropped) (hdropped.quiet (raiseDrop_writesOnly ..)) t

end Sys2Proof.Machine

/-! PROOFS. `RingPush` (R32): the octets stored, the offsets reached, the end of the ring. -/

namespace Sys2Proof.Machine

/-- `data.take n` is what the store loop runs over, and it has exactly the `n` octets that `RingPush` answers. -/
theorem length_take_ringPush (cfg : Config) (c : Conn) (data : Octets) :
    (data.take (ringPush cfg c data).1).length = (ringPush cfg c data).1 :=
  List.length_take_of_le (Nat.min_le_left _ _)

/-- The octets of the ring after `RingPush` are those the store loop leaves. -/
theorem ringPush_recvBuf (cfg : Config) (c : Conn) (data : Octets) :
    (ringPush cfg c data).2.recvBuf = (ringStore cfg.rxbufCap (data.take (ringPush cfg c data).1) c).recvBuf := rfl

theorem octetAt_eq_getElem {b : Octets} {i : Nat} (h : i < b.length) : octetAt b i = b[i] := (List.getElem_eq_getD 0).symm

namespace ConnOk

variable {cfg : Config} {c : Conn} (h : ConnOk cfg c) (data : Octets)

include h

/-- `recv_end` steps on by the number of octets stored. -/
theorem ringPush_recvEnd :
    (ringPush cfg c data).2.recvEnd = (c.recvEnd + (ringPush cfg c data).1) % cfg.rxbufCap := by
  have hend := ringStore_recvEnd cfg.rxbufCap (data.take (ringPush cfg c data).1) c h.recvEnd_lt
  rwa [length_take_ringPush] at hend

/-- An offset that `RingPush` reaches holds the octet stored there: no more than a ring's worth is stored, so none is overwritten. -/
theorem ringPush_read_stored {i : Nat} (hi : i < (ringPush cfg c data).1) :
    Memory.read (ringPush cfg c data).2.recvBuf ((c.recvEnd + i) % cfg.rxbufCap) = octetAt data i := by
  have hlen := length_take_ringPush cfg c data
  have hfits : (ringPush cfg c data).1 ≤ cfg.rxbufCap := (Nat.min_le_right _ _).trans (Nat.sub_le _ _)
  have hdata : i < data.length := hi.trans_le (Nat.min_le_left _ _)
  rw [ringPush_recvBuf, ringStore_read_stored _ _ c h.bufWf h.recvEnd_lt (hlen.trans_le hfits) i (hi.trans_eq hlen.symm),
    List.getElem_take, octetAt_eq_getElem hdata]

/-- An offset that `RingPush` does not reach keeps its octet. -/
theorem ringPush_read_other {k : Nat} (hk : ∀ i < (ringPush cfg c data).1, k ≠ (c.recvEnd + i) % cfg.rxbufCap) :
    Memory.read (ringPush cfg c data).2.recvBuf k = Memory.read c.recvBuf k := by
  rw [ringPush_recvBuf]
  refine ringStore_read_other _ _ c h.bufWf k ?_ h.recvEnd_lt
  rwa [length_take_ringPush]

/-- `RingPush` writes the octets, the end and the count of the ring, and no other field. -/
theorem ringPush_record :
    (ringPush cfg c data).2 = { c with
      recvBuf := (ringPush cfg c data).2.recvBuf
      recvEnd := (c.recvEnd + (ringPush cfg c data).1) % cfg.rxbufCap
      recvCount := c.recvCount + (ringPush cfg c data).1 } := by
  rw [← h.ringPush_recvEnd]
  exact ringPush_frame cfg c data

end ConnOk

/-- Settles O37: `n` is the first answer of `ringPush`; the offsets stored, the offsets kept and the fields follow. -/
theorem ringPushStores : Obligations.RingPushStores := by
  rintro cfg c data _ h rfl
  exact ⟨rfl, fun _ hi => h.ringPush_read_stored data hi, fun _ hk => h.ringPush_read_other data hk, h.ringPush_record data⟩

end Sys2Proof.Machine

/-! PROOFS. Flag bits and dispatch keys: the conditions of R107 and R291 as masks, and the key of R117 masked. -/

namespace Sys2Proof.Machine

/-! ### The flag bits (R104, R291) -/

theorem and_flagSyn (f : Octet) : f &&& 0x02#8 = if hasSyn f then 0x02#8 else 0 := BitVec.and_twoPow f 1
theorem and_flagAck (f : Octet) : f &&& 0x10#8 = if hasAck f then 0x10#8 else 0 := BitVec.and_twoPow f 4
theorem and_flagFin (f : Octet) : f &&& 0x01#8 = if hasFin f then 0x01#8 else 0 := BitVec.and_twoPow f 0

theorem and_flagsSynAck (f : Octet) : f &&& 0x12#8 = (f &&& 0x02#8) ||| (f &&& 0x10#8) :=
  BitVec.and_or_distrib_left (x := f) (y := 0x02#8) (z := 0x10#8)

theorem and_flagSyn_of_hasSyn {f : Octet} (h : hasSyn f = true) : f &&& 0x02#8 = 0x02#8 := (and_flagSyn f).trans (if_pos h)
theorem and_flagAck_of_hasAck {f : Octet} (h : hasAck f = true) : f &&& 0x10#8 = 0x10#8 := (and_flagAck f).trans (if_pos h)
theorem and_flagFin_of_hasFin {f : Octet} (h : hasFin f = true) : f &&& 0x01#8 = 0x01#8 := (and_flagFin f).trans (if_pos h)

theorem hasSyn_iff (f : Octet) : hasSyn f = true ↔ f &&& 0x02#8 ≠ 0 := by simp [and_flagSyn]
theorem hasAck_iff (f : Octet) : hasAck f = true ↔ f &&& 0x10#8 ≠ 0 := by simp [and_flagAck]
theorem hasFin_iff (f : Octet) : hasFin f = true ↔ f &&& 0x01#8 ≠ 0 := by simp [and_flagFin]

theorem hasSyn_and_hasAck_iff (f : Octet) : (hasSyn f && hasAck f) = true ↔ f &&& 0x12#8 = 0x12#8 := by
  rw [and_flagsSynAck, and_flagSyn, and_flagAck]
  cases hasSyn f <;> cases hasAck f <;> decide

/-! ### The dispatch key (R117) -/

/-- Masking a TCP key keeps the state half and masks the flag octet. -/
theorem and_stateFlags {code : Nat} {flags mask v : Octet} (hcode : code ≤ 15) (hv : flags &&& mask = v) :
    (code * 256 + flags.toNat) &&& (0xF00 + mask.toNat) = code * 256 + v.toNat := by
  have hstate := Nat.and_div_two_pow (a := code * 256 + flags.toNat) (b := 0xF00 + mask.toNat) (n := 8)
  have hflags := Nat.and_mod_two_pow (a := code * 256 + flags.toNat) (b := 0xF00 + mask.toNat) (n := 8)
  rw [show (code * 256 + flags.toNat) / 2 ^ 8 = code by omega, show (0xF00 + mask.toNat) / 2 ^ 8 = 2 ^ 4 - 1 by omega,
    Nat.and_two_pow_sub_one_of_lt_two_pow (by omega)] at hstate
  rw [show (code * 256 + flags.toNat) % 2 ^ 8 = flags.toNat by omega, show (0xF00 + mask.toNat) % 2 ^ 8 = mask.toNat by omega,
    ← BitVec.toNat_and, hv] at hflags
  omega

/-- A key equal to a row's value matches it under the full mask. -/
theorem and_fullMask_of_eq {w : Nat} {v c : BitVec w} (h : v = c) : v.toNat &&& (2 ^ w - 1) = c.toNat := by
  rw [h, Nat.and_two_pow_sub_one_of_lt_two_pow c.isLt]

end Sys2Proof.Machine

/-! PROOFS. Decoding (R91 to R111, R117): what each dispatch does with a built header, and which rows the decoder answers. -/

namespace Sys2Proof.Machine

/-! ### Each dispatch on an encoded string -/

section

variable {α : Type} {malformed : α}

theorem caseFrame_encodeFrame (t : Word16) (p : Octets) (ipv4 ipv4Swapped arp arpSwapped : Octets → α) (unknown : Word16 → α) :
    caseFrame (encodeFrame t p) malformed ipv4 ipv4Swapped arp arpSwapped unknown =
      if t = 0x0800#16 then ipv4 p else if t = 0x0008#16 then ipv4Swapped p else if t = 0x0806#16 then arp p
      else if t = 0x0608#16 then arpSwapped p else unknown t := by
  rw [caseFrame, if_neg (by rw [length_encodeFrame]; omega), be16_encodeFrame, drop_encodeFrame]
  rfl

theorem caseArp_encodeArp (op : Word16) (sha : Mac) (spa tpa : Word32) (request : Mac → Word32 → Word32 → α)
    (other : Word16 → Mac → Word32 → Word32 → α) :
    caseArp (encodeArp op sha spa tpa) malformed request other =
      if op = 1#16 then request sha spa tpa else other op sha spa tpa := by
  rw [caseArp, if_neg (by rw [length_encodeArp]; omega), be16_encodeArp, macAt_encodeArp, spa_encodeArp, tpa_encodeArp]

theorem caseIp_encodeIp (proto : Octet) (src : Word32) (p : Octets) (icmp tcp udp : Word32 → Octets → α) (unknown : Octet → α) :
    caseIp (encodeIp proto src p) malformed icmp tcp udp unknown =
      if proto = 1#8 then icmp src p else if proto = 17#8 then udp src p else if proto = 6#8 then tcp src p
      else unknown proto := by
  rw [caseIp, ipHeaderLength_encodeIp, if_neg (by rw [length_encodeIp]; omega), if_neg (by rw [length_encodeIp]; omega),
    protocol_encodeIp, src_encodeIp, drop_encodeIp]

theorem caseIcmp_encodeIcmp (t : Octet) (q : Word16) {n : Nat} (h : 8 ≤ n) (echoReply : Nat → Word16 → α) (other : Octet → α) :
    caseIcmp (encodeIcmp t q n) malformed echoReply other = if t = 0#8 then echoReply n q else other t := by
  rw [caseIcmp, length_encodeIcmp t q n h, if_neg (by omega), type_encodeIcmp, sequence_encodeIcmp]

theorem caseUdp_encodeUdp (port : Word16) (p : Octets) (dhcp : Octets → α) (other : Word16 → α) :
    caseUdp (encodeUdp port p) malformed dhcp other = if port = 68#16 then dhcp p else other port := by
  rw [caseUdp, if_neg (by rw [length_encodeUdp]; omega), port_encodeUdp, drop_encodeUdp]

/-- An encoded option at the head of a stream is taken off whole, whatever follows it (R109, R162). -/
theorem caseOption_tlvEncode {c : Octet} {v : Octets} (h0 : c ≠ 0#8) (h255 : c ≠ 255#8) (hv : v.length ≤ 255) (rest : Octets)
    (stop : α) (pad : Octets → α) (theEnd : α) (subnetMask router : Octets → Octets → α) (other : Octet → Octets → Octets → α) :
    caseOption (tlvEncode c v ++ rest) stop pad theEnd subnetMask router other =
      if c = 1#8 then subnetMask v rest else if c = 3#8 then router v rest else other c v rest := by
  have hlen : (BitVec.ofNat 8 v.length).toNat = v.length := Nat.mod_eq_of_lt (Nat.lt_succ_of_le hv)
  simp only [caseOption, tlvEncode, List.cons_append, if_neg h0, if_neg h255, hlen]
  rw [if_neg (by simp), List.take_left, List.drop_left]

end

/-! ### The fields of a TCP header (R103, R291) -/

theorem srcPort_encodeSegment (seg : TcpSeg) : be16 (encodeSegment seg) 0 = seg.srcPort := half_of_octets _
theorem dstPort_encodeSegment (seg : TcpSeg) : be16 (encodeSegment seg) 2 = seg.dstPort := half_of_octets _
theorem seq_encodeSegment (seg : TcpSeg) : be32 (encodeSegment seg) 4 = seg.seq := word_of_octets _
theorem ack_encodeSegment (seg : TcpSeg) : be32 (encodeSegment seg) 8 = seg.ack := word_of_octets _
theorem flags_encodeSegment (seg : TcpSeg) : octetAt (encodeSegment seg) 13 = seg.flags := rfl
theorem window_encodeSegment (seg : TcpSeg) : be16 (encodeSegment seg) 14 = seg.window := half_of_octets _

theorem parseTcp_encodeSegment (seg : TcpSeg) : parseTcp (encodeSegment seg) = some seg := by
  rw [parseTcp, tcpHeaderLength_encodeSegment, if_neg (by rw [length_encodeSegment]; omega),
    if_neg (by rw [length_encodeSegment]; omega), drop_encodeSegment, srcPort_encodeSegment, dstPort_encodeSegment,
    seq_encodeSegment, ack_encodeSegment, flags_encodeSegment, window_encodeSegment]

/-- Where no row matches, the last arm is selected (R107, R310). -/
theorem caseState_of_noRowMatches {α : Type} {st : TcpState} {seg : TcpSeg} (h : noRowMatches st seg = true)
    (listenSyn synSentSynack synReceivedAck establishedData establishedFin finWait1Ack finWait2Fin lastAckAck timeWaitAny
      noAction : α) :
    caseState st seg listenSyn synSentSynack synReceivedAck establishedData establishedFin finWait1Ack finWait2Fin lastAckAck
      timeWaitAny noAction = noAction := by
  cases st with
  | closed | closeWait | closing => rfl
  | timeWait => cases h
  | listen | synReceived | finWait1 | finWait2 | lastAck => exact if_neg (by simpa [noRowMatches] using h)
  | synSent => exact if_neg (by rw [Bool.not_eq_true]; exact Bool.not_eq_true' _ ▸ h)
  | established =>
    obtain ⟨hdata, hfin⟩ := Bool.and_eq_true_iff.mp h
    exact (if_neg (by rw [hdata]; exact Bool.false_ne_true)).trans (if_neg (by simpa using hfin))

/-! ### Decoding an encoding, one format at a time -/

theorem decodeFrame_encodeFrame (t : Word16) (p : Octets) (now : Nat) :
    decodeFrame (encodeFrame t p) now =
      .ok (if t = 0x0800#16 then .ethRxIpv4 p now else if t = 0x0008#16 then .ethRxIpv4Swapped p now
        else if t = 0x0806#16 then .ethRxArp p else if t = 0x0608#16 then .ethRxArpSwapped p else .ethRxUnknown t) := by
  simp only [decodeFrame, caseFrame_encodeFrame, apply_ite Except.ok]

theorem decodeArp_encodeArp (op : Word16) (sha : Mac) (spa tpa : Word32) :
    decodeArp (encodeArp op sha spa tpa) = .ok (if op = 1#16 then .arpRxRequest sha spa tpa else .arpRxOther op sha spa tpa) := by
  simp only [decodeArp, caseArp_encodeArp, apply_ite Except.ok]

theorem decodeIp_encodeIp (proto : Octet) (src : Word32) (p : Octets) (now : Nat) :
    decodeIp (encodeIp proto src p) now =
      .ok (if proto = 1#8 then .ipRxIcmp src p else if proto = 17#8 then .ipRxUdp src p
        else if proto = 6#8 then .ipRxTcp src p now else .ipRxUnknown proto) := by
  simp only [decodeIp, caseIp_encodeIp, apply_ite Except.ok]

theorem decodeIcmp_encodeIcmp (src : Word32) (t : Octet) (q : Word16) {n : Nat} (h : 8 ≤ n) :
    decodeIcmp src (encodeIcmp t q n) = .ok (if t = 0#8 then .icmpRxEchoReply src n q else .icmpRxOther t) := by
  simp only [decodeIcmp, caseIcmp_encodeIcmp t q h, apply_ite Except.ok]

theorem decodeUdp_encodeUdp (port : Word16) (p : Octets) :
    decodeUdp (encodeUdp port p) = .ok (if port = 68#16 then .udpRxDhcpClient p else .udpRxOther port) := by
  simp only [decodeUdp, caseUdp_encodeUdp, apply_ite Except.ok]

theorem decodeOption_tlvEncode {c : Octet} {v : Octets} (h0 : c ≠ 0#8) (h255 : c ≠ 255#8) (hv : v.length ≤ 255) :
    decodeOption (tlvEncode c v) =
      .ok (if c = 1#8 then .dhcpOptSubnetMask v else if c = 3#8 then .dhcpOptRouter v else .dhcpOptOther c v) := by
  have hcase := caseOption_tlvEncode (α := Except DecodeError Instr) h0 h255 hv []
  simp only [List.append_nil] at hcase
  simp only [decodeOption, hcase, apply_ite Except.ok]

theorem decodeTcp_encodeSegment (found : Option TcpState) (src : Word32) (seg : TcpSeg) (now : Nat) :
    decodeTcp found src (encodeSegment seg) now = .ok (instrOfSegment found src seg now) := by
  rw [decodeTcp, parseTcp_encodeSegment]

/-- Decoding a segment's encoding gives back the arm that the segment selects in the state encoded with it. -/
theorem decode_encode_of_instrOfSegment {i : Instr} {found : Option TcpState} {src : Word32} {seg : TcpSeg} {now : Nat}
    (he : encode i = .tcpStateFlags found src (encodeSegment seg) now) (hi : instrOfSegment found src seg now = i) :
    decode (encode i) = .ok i := by
  rw [he, ← hi]
  exact decodeTcp_encodeSegment found src seg now

/-- Settles O7: one case per instruction. A receive arm's dispatch reads back what the encoder wrote, and the row is selected because
the instruction is well formed; a command's operands are kept as they are. -/
theorem decodeEncode : Obligations.DecodeEncode := by
  intro i h
  cases i with
  | ethRxIpv4 p now | ethRxIpv4Swapped p now | ethRxArp p | ethRxArpSwapped p => exact decodeFrame_encodeFrame ..
  | ethRxUnknown t =>
    simp only [Instr.wellFormed, isKnownEtherType, Bool.not_eq_true', Bool.or_eq_false_iff, beq_eq_false_iff_ne] at h
    simp [encode, decode, decodeFrame_encodeFrame, h]
  | arpRxRequest sha spa tpa => exact decodeArp_encodeArp ..
  | arpRxOther op sha spa tpa =>
    simp only [Instr.wellFormed, bne_iff_ne] at h
    simp [encode, decode, decodeArp_encodeArp, h]
  | ipRxIcmp src p | ipRxTcp src p now | ipRxUdp src p => exact decodeIp_encodeIp ..
  | ipRxUnknown proto =>
    simp only [Instr.wellFormed, isKnownProtocol, Bool.not_eq_true', Bool.or_eq_false_iff, beq_eq_false_iff_ne] at h
    simp [encode, decode, decodeIp_encodeIp, h]
  | icmpRxEchoReply src n q => exact decodeIcmp_encodeIcmp src 0 q (of_decide_eq_true h)
  | icmpRxOther t =>
    simp only [Instr.wellFormed, bne_iff_ne] at h
    simp [encode, decode, decodeIcmp_encodeIcmp, h]
  | udpRxDhcpClient p => exact decodeUdp_encodeUdp ..
  | udpRxOther port =>
    simp only [Instr.wellFormed, bne_iff_ne] at h
    simp [encode, decode, decodeUdp_encodeUdp, h]
  | dhcpOptPad | dhcpOptEnd => rfl
  | dhcpOptSubnetMask v | dhcpOptRouter v => exact decodeOption_tlvEncode (by decide) (by decide) (of_decide_eq_true h)
  | dhcpOptOther c v =>
    simp only [Instr.wellFormed, isKnownOption, Bool.and_eq_true, Bool.not_eq_true', Bool.or_eq_false_iff, beq_eq_false_iff_ne,
      decide_eq_true_eq] at h
    obtain ⟨⟨⟨⟨h0, h1⟩, h3⟩, h255⟩, hv⟩ := h
    simp [encode, decode, decodeOption_tlvEncode, *]
  | tcpRxNoconnSyn src seg now => exact decode_encode_of_instrOfSegment rfl (if_pos h)
  | tcpRxListenSyn src seg | tcpRxSynSentSynack src seg | tcpRxSynReceivedAck src seg | tcpRxEstablishedData src seg
  | tcpRxFinWait1Ack src seg | tcpRxFinWait2Fin src seg | tcpRxLastAckAck src seg =>
    exact decode_encode_of_instrOfSegment rfl (if_pos h)
  | tcpRxNoconnOther src seg =>
    exact decode_encode_of_instrOfSegment rfl (if_neg (by simpa [Instr.wellFormed] using h))
  | tcpRxEstablishedFin src seg =>
    obtain ⟨hdata, hfin⟩ := Bool.and_eq_true_iff.mp h
    exact decode_encode_of_instrOfSegment rfl ((if_neg (by simpa using hdata)).trans (if_pos hfin))
  | tcpRxTimeWaitAny src seg => exact decode_encode_of_instrOfSegment rfl rfl
  | tcpRxNoAction found src seg => exact decode_encode_of_instrOfSegment rfl (caseState_of_noRowMatches h ..)
  | _ => rfl

/-! ### The row of a decoded instruction -/

/-- The row `i` stands for has the format of `e`, and its value is the key of `e` under its mask (R117). -/
def MatchesKey (i : Instr) (e : Encoded) : Prop := i.row.format = e.format ∧ e.key &&& i.row.mask = i.row.value

theorem decodeFrame_ok {f : Octets} {now : Nat} {i : Instr} (h : decodeFrame f now = .ok i) :
    i.wellFormed = true ∧ MatchesKey i (.ethertype f now) := by
  unfold decodeFrame caseFrame at h
  split_ifs at h with hlen h4 h4s ha has <;> cases h
  · exact ⟨rfl, rfl, and_fullMask_of_eq h4⟩
  · exact ⟨rfl, rfl, and_fullMask_of_eq h4s⟩
  · exact ⟨rfl, rfl, and_fullMask_of_eq ha⟩
  · exact ⟨rfl, rfl, and_fullMask_of_eq has⟩
  · have h4s' : be16 f 12 ≠ 0x0008#16 := h4s
    have has' : be16 f 12 ≠ 0x0608#16 := has
    exact ⟨by simp [Instr.wellFormed, isKnownEtherType, *], rfl, Nat.and_zero _⟩

theorem decodeArp_ok {p : Octets} {i : Instr} (h : decodeArp p = .ok i) : i.wellFormed = true ∧ MatchesKey i (.arpOpcode p) := by
  unfold decodeArp caseArp at h
  split_ifs at h with hlen hreq <;> cases h
  · exact ⟨rfl, rfl, and_fullMask_of_eq hreq⟩
  · exact ⟨bne_iff_ne.mpr hreq, rfl, Nat.and_zero _⟩

theorem decodeIp_ok {b : Octets} {now : Nat} {i : Instr} (h : decodeIp b now = .ok i) :
    i.wellFormed = true ∧ MatchesKey i (.ipProtocol b now) := by
  unfold decodeIp caseIp at h
  split_ifs at h with hlen hihl hicmp hudp htcp <;> cases h
  · exact ⟨rfl, rfl, and_fullMask_of_eq hicmp⟩
  · exact ⟨rfl, rfl, and_fullMask_of_eq hudp⟩
  · exact ⟨rfl, rfl, and_fullMask_of_eq htcp⟩
  · exact ⟨by simp [Instr.wellFormed, isKnownProtocol, *], rfl, Nat.and_zero _⟩

theorem decodeIcmp_ok {src : Word32} {b : Octets} {i : Instr} (h : decodeIcmp src b = .ok i) :
    i.wellFormed = true ∧ MatchesKey i (.icmpType src b) := by
  unfold decodeIcmp caseIcmp at h
  split_ifs at h with hlen hreply <;> cases h
  · exact ⟨decide_eq_true (Nat.le_of_not_lt hlen), rfl, and_fullMask_of_eq hreply⟩
  · exact ⟨bne_iff_ne.mpr hreply, rfl, Nat.and_zero _⟩

theorem decodeUdp_ok {src : Word32} {b : Octets} {i : Instr} (h : decodeUdp b = .ok i) :
    i.wellFormed = true ∧ MatchesKey i (.udpDport src b) := by
  unfold decodeUdp caseUdp at h
  split_ifs at h with hlen hport <;> cases h
  · exact ⟨rfl, rfl, and_fullMask_of_eq hport⟩
  · exact ⟨bne_iff_ne.mpr hport, rfl, Nat.and_zero _⟩

theorem decodeOption_ok {b : Octets} {i : Instr} (h : decodeOption b = .ok i) :
    i.wellFormed = true ∧ MatchesKey i (.dhcpOption b) := by
  unfold decodeOption caseOption at h
  cases b with
  | nil => cases h
  | cons code rest =>
    cases rest with
    | nil =>
      dsimp only at h
      split_ifs at h with hend hpad <;> cases h
      · exact ⟨rfl, rfl, and_fullMask_of_eq hend⟩
      · exact ⟨rfl, rfl, and_fullMask_of_eq hpad⟩
    | cons n body =>
      have hvalue : (body.take n.toNat).length ≤ 255 := (List.length_take_le ..).trans (Nat.le_of_lt_succ n.isLt)
      dsimp only at h
      split_ifs at h with hend hpad hcut hmask hrouter <;> cases h
      · exact ⟨rfl, rfl, and_fullMask_of_eq hend⟩
      · exact ⟨rfl, rfl, and_fullMask_of_eq hpad⟩
      · exact ⟨decide_eq_true hvalue, rfl, and_fullMask_of_eq hmask⟩
      · exact ⟨decide_eq_true hvalue, rfl, and_fullMask_of_eq hrouter⟩
      · exact ⟨by simp [Instr.wellFormed, isKnownOption, -List.length_take, *], rfl, Nat.and_zero _⟩

/-- A command's code is its row's value (R111). -/
theorem decodeCommand_ok {code : Octet} {args : List Operand} {now : Nat} {i : Instr} (h : decodeCommand code args = .ok i) :
    MatchesKey i (.cmd code args now) := by
  unfold decodeCommand at h
  split at h <;> (try split at h) <;> cases h
  all_goals exact ⟨rfl, (and_fullMask_of_eq rfl).trans ‹_›⟩

/-! ### The arm of a segment -/

section

variable {α : Type} {P : α → Prop} {st : TcpState} {seg : TcpSeg}

/-- Which condition selects each arm of the state table (R107): an arm needs its property only where it is selected. -/
theorem caseState_of_selected {listenSyn synSentSynack synReceivedAck establishedData establishedFin finWait1Ack finWait2Fin lastAckAck
      timeWaitAny noAction : α}
    (hl : st = .listen → hasSyn seg.flags = true → P listenSyn)
    (hs : st = .synSent → (hasSyn seg.flags && hasAck seg.flags) = true → P synSentSynack)
    (hr : st = .synReceived → hasAck seg.flags = true → P synReceivedAck)
    (hd : st = .established → (!seg.data.isEmpty) = true → P establishedData)
    (hf : st = .established → (seg.data.isEmpty && hasFin seg.flags) = true → P establishedFin)
    (h1 : st = .finWait1 → hasAck seg.flags = true → P finWait1Ack)
    (h2 : st = .finWait2 → hasFin seg.flags = true → P finWait2Fin)
    (hk : st = .lastAck → hasAck seg.flags = true → P lastAckAck)
    (ht : st = .timeWait → P timeWaitAny)
    (hn : noRowMatches st seg = true → P noAction) :
    P (caseState st seg listenSyn synSentSynack synReceivedAck establishedData establishedFin finWait1Ack finWait2Fin lastAckAck
      timeWaitAny noAction) := by
  cases st with
  | closed | closeWait | closing => exact hn rfl
  | timeWait => exact ht rfl
  | listen => exact iteInduction (hl rfl) fun h => hn (by simpa [noRowMatches] using h)
  | synSent => exact iteInduction (hs rfl) fun h => hn (by simpa only [noRowMatches, Bool.not_eq_true', Bool.not_eq_true] using h)
  | synReceived => exact iteInduction (hr rfl) fun h => hn (by simpa [noRowMatches] using h)
  | established =>
    refine iteInduction (hd rfl) fun hdata => iteInduction (fun h => hf rfl ?_) fun h => hn ?_
    · rw [h, Bool.and_true]; simpa using hdata
    · simpa [noRowMatches] using And.intro hdata h
  | finWait1 => exact iteInduction (h1 rfl) fun h => hn (by simpa [noRowMatches] using h)
  | finWait2 => exact iteInduction (h2 rfl) fun h => hn (by simpa [noRowMatches] using h)
  | lastAck => exact iteInduction (hk rfl) fun h => hn (by simpa [noRowMatches] using h)

end

/-- What the decoder needs of a segment is its flag octet: a parsed segment has it from offset 13 (R103, R117). -/
theorem parseTcp_flags {b : Octets} {seg : TcpSeg} (h : parseTcp b = some seg) : seg.flags = octetAt b 13 := by
  unfold parseTcp at h
  split_ifs at h
  cases h
  rfl

theorem tcpState_code_le (st : TcpState) : st.code ≤ 15 := by cases st <;> decide

/-- The arm a segment selects is well formed, and its row matches the key of any octets with the segment's flags (R107, R117). -/
theorem instrOfSegment_ok (found : Option TcpState) (src : Word32) {seg : TcpSeg} (now : Nat) {b : Octets}
    (hb : seg.flags = octetAt b 13) :
    (instrOfSegment found src seg now).wellFormed = true
      ∧ MatchesKey (instrOfSegment found src seg now) (.tcpStateFlags found src b now) := by
  cases found with
  | none =>
    rw [instrOfSegment, caseNoConn]
    split_ifs with hsyn
    · exact ⟨hsyn, rfl, and_stateFlags (code := 15) le_rfl (and_flagSyn_of_hasSyn (hb ▸ hsyn))⟩
    · exact ⟨by simpa [Instr.wellFormed] using hsyn, rfl, and_stateFlags (code := 15) le_rfl BitVec.and_zero⟩
  | some st =>
    have hkey {mask v : Octet} : octetAt b 13 &&& mask = v → _ := and_stateFlags (tcpState_code_le st)
    have hsyn (h : hasSyn seg.flags = true) := hkey (and_flagSyn_of_hasSyn (hb ▸ h))
    have hack (h : hasAck seg.flags = true) := hkey (and_flagAck_of_hasAck (hb ▸ h))
    have hfin (h : hasFin seg.flags = true) := hkey (and_flagFin_of_hasFin (hb ▸ h))
    have hany := hkey (mask := 0) BitVec.and_zero
    refine caseState_of_selected (P := fun i => i.wellFormed = true ∧ MatchesKey i (.tcpStateFlags (some st) src b now))
      ?listenSyn ?synSentSynack ?synReceivedAck ?establishedData ?establishedFin ?finWait1Ack ?finWait2Fin ?lastAckAck ?timeWaitAny
      ?noAction
    case listenSyn => rintro rfl h; exact ⟨h, rfl, hsyn h⟩
    case synSentSynack =>
      rintro rfl h
      exact ⟨h, rfl, hkey ((hasSyn_and_hasAck_iff _).mp (hb ▸ h))⟩
    case synReceivedAck => rintro rfl h; exact ⟨h, rfl, hack h⟩
    case establishedData => rintro rfl h; exact ⟨h, rfl, hany⟩
    case establishedFin => rintro rfl h; exact ⟨h, rfl, hfin (Bool.and_eq_true_iff.mp h).2⟩
    case finWait1Ack => rintro rfl h; exact ⟨h, rfl, hack h⟩
    case finWait2Fin => rintro rfl h; exact ⟨h, rfl, hfin h⟩
    case lastAckAck => rintro rfl h; exact ⟨h, rfl, hack h⟩
    case timeWaitAny => rintro rfl; exact ⟨rfl, rfl, hany⟩
    case noAction => exact fun h => ⟨h, rfl, Nat.and_zero _⟩

theorem decodeTcp_ok {found : Option TcpState} {src : Word32} {b : Octets} {now : Nat} {i : Instr}
    (h : decodeTcp found src b now = .ok i) : i.wellFormed = true ∧ MatchesKey i (.tcpStateFlags found src b now) := by
  unfold decodeTcp at h
  split at h <;> cases h
  exact instrOfSegment_ok found src now (parseTcp_flags ‹_›)

/-- Settles O8: the dispatch of each receive format answers an arm only under its row's condition. -/
theorem decodedReceiveArmsWellFormed : Obligations.DecodedReceiveArmsWellFormed := by
  intro e i hrx h
  cases e with
  | ethertype f now => exact (decodeFrame_ok h).1
  | arpOpcode p => exact (decodeArp_ok h).1
  | ipProtocol b now => exact (decodeIp_ok h).1
  | icmpType src b => exact (decodeIcmp_ok h).1
  | udpDport src b => exact (decodeUdp_ok (src := src) h).1
  | dhcpOption b => exact (decodeOption_ok h).1
  | tcpStateFlags found src b now => exact (decodeTcp_ok h).1
  | cmd code args now => exact absurd rfl hrx

/-- Settles O9: by the format, the row of the arm its dispatch answers. -/
theorem decodedRowMatches : Obligations.DecodedRowMatches := by
  intro e i h
  cases e with
  | ethertype f now => exact (decodeFrame_ok h).2
  | arpOpcode p => exact (decodeArp_ok h).2
  | ipProtocol b now => exact (decodeIp_ok h).2
  | icmpType src b => exact (decodeIcmp_ok h).2
  | udpDport src b => exact (decodeUdp_ok h).2
  | dhcpOption b => exact (decodeOption_ok h).2
  | tcpStateFlags found src b now => exact (decodeTcp_ok h).2
  | cmd code args now => exact decodeCommand_ok h

/-- Settles O6: each word evaluated. -/
theorem decodeKnownWords : Obligations.DecodeKnownWords :=
  ⟨rfl, rfl, rfl, rfl, rfl, rfl, rfl, rfl⟩

end Sys2Proof.Machine

/-! PROOFS. The state table of TCP.RX (R107): each state's arm and the condition that selects it. -/

namespace Sys2Proof.Machine

/-- A segment found in a state selects an arm of that state and of that segment. -/
theorem encode_instrOfSegment (st : TcpState) (src : Word32) (seg : TcpSeg) (now : Nat) :
    encode (instrOfSegment (some st) src seg now) = .tcpStateFlags (some st) src (encodeSegment seg) 0 := by
  refine caseState_of_selected (P := fun i => encode i = .tcpStateFlags (some st) src (encodeSegment seg) 0)
    ?_ ?_ ?_ ?_ ?_ ?_ ?_ ?_ ?_ fun _ => rfl
  all_goals rintro rfl; intros; rfl

/-- An arm of state `st'` is selected exactly in that state and where its condition, `Instr.wellFormed`, holds: the arm selected is
well formed, and a well-formed arm is what its encoding decodes to. -/
theorem instrOfSegment_eq_iff {st st' : TcpState} {src : Word32} {seg : TcpSeg} {now : Nat} {i : Instr}
    (he : encode i = .tcpStateFlags (some st') src (encodeSegment seg) 0) :
    instrOfSegment (some st) src seg now = i ↔ st = st' ∧ i.wellFormed = true := by
  constructor
  · rintro rfl
    have hst := (encode_instrOfSegment st src seg now).symm.trans he
    injection hst with hst
    exact ⟨Option.some.inj hst, (instrOfSegment_ok (some st) src now (flags_encodeSegment seg).symm).1⟩
  · rintro ⟨rfl, hwf⟩
    have hdec := decodeEncode i hwf
    rw [he] at hdec
    exact Except.ok.inj ((decodeTcp_encodeSegment ..).symm.trans hdec)

/-- No action is the arm exactly where no row before it matches (R107, R310). -/
theorem exists_instrOfSegment_eq_noAction_iff {st : TcpState} {src : Word32} {seg : TcpSeg} {now : Nat} :
    (∃ f, instrOfSegment (some st) src seg now = .tcpRxNoAction f src seg) ↔ noRowMatches st seg = true := by
  simp only [instrOfSegment_eq_iff (i := .tcpRxNoAction _ src seg) rfl, exists_eq_left', Instr.wellFormed]

/-- The states and conditions under which no row matches, as R107 lists them. -/
theorem noRowMatches_iff (st : TcpState) (seg : TcpSeg) :
    noRowMatches st seg = true ↔
      st = .closed ∨ st = .closeWait ∨ st = .closing ∨ (st = .listen ∧ seg.flags &&& 0x02#8 = 0)
        ∨ (st = .synSent ∧ seg.flags &&& 0x12#8 ≠ 0x12#8) ∨ (st = .synReceived ∧ seg.flags &&& 0x10#8 = 0)
        ∨ (st = .established ∧ seg.data = [] ∧ seg.flags &&& 0x01#8 = 0) ∨ (st = .finWait1 ∧ seg.flags &&& 0x10#8 = 0)
        ∨ (st = .finWait2 ∧ seg.flags &&& 0x01#8 = 0) ∨ (st = .lastAck ∧ seg.flags &&& 0x10#8 = 0) := by
  cases st with
  | closed | closeWait | closing | timeWait => simp [noRowMatches]
  | listen => simp [noRowMatches, and_flagSyn]
  | synSent =>
    rw [noRowMatches, Bool.not_eq_true', ← Bool.not_eq_true, hasSyn_and_hasAck_iff]
    simp
  | synReceived | finWait1 | lastAck => simp [noRowMatches, and_flagAck]
  | established | finWait2 => simp [noRowMatches, and_flagFin]

theorem instrOfSegment_none_eq_syn_iff {src : Word32} {seg : TcpSeg} {now : Nat} :
    instrOfSegment none src seg now = .tcpRxNoconnSyn src seg now ↔ seg.flags &&& 0x02#8 ≠ 0 := by
  rw [← hasSyn_iff, instrOfSegment, caseNoConn, ite_eq_left_iff]; simp

theorem instrOfSegment_none_eq_other_iff {src : Word32} {seg : TcpSeg} {now : Nat} :
    instrOfSegment none src seg now = .tcpRxNoconnOther src seg ↔ seg.flags &&& 0x02#8 = 0 := by
  rw [← not_iff_not, ← ne_eq (_ &&& _), ← hasSyn_iff, instrOfSegment, caseNoConn, ite_eq_right_iff]; simp

/-- Settles O46: the state of each arm and its condition, flag by flag. -/
theorem stateArmSelection : Obligations.StateArmSelection := by
  intro st src seg now
  refine ⟨exists_instrOfSegment_eq_noAction_iff.trans (noRowMatches_iff st seg), instrOfSegment_none_eq_syn_iff,
    instrOfSegment_none_eq_other_iff, ?_, ?_, ?_, ?_, ?_, ?_, ?_, ?_, ?_⟩
  · exact (instrOfSegment_eq_iff rfl).trans (and_congr_right' (hasSyn_iff _))
  · exact (instrOfSegment_eq_iff rfl).trans (and_congr_right' (hasSyn_and_hasAck_iff _))
  · exact (instrOfSegment_eq_iff rfl).trans (and_congr_right' (hasAck_iff _))
  · exact (instrOfSegment_eq_iff rfl).trans (and_congr_right' (hasAck_iff _))
  · exact (instrOfSegment_eq_iff rfl).trans (and_congr_right' (hasFin_iff _))
  · exact (instrOfSegment_eq_iff rfl).trans (and_congr_right' (hasAck_iff _))
  · exact (instrOfSegment_eq_iff rfl).trans (and_iff_left rfl)
  · exact (instrOfSegment_eq_iff rfl).trans (and_congr_right' (by simp [Instr.wellFormed]))
  · exact (instrOfSegment_eq_iff rfl).trans (and_congr_right' (by simp [Instr.wellFormed, hasFin_iff]))

end Sys2Proof.Machine

/-! PROOFS. The option walk over encoded options (R109, R160, R162): pads, options and every stop. -/

namespace Sys2Proof.Machine

/-- Where the walk stops: the end of the octets, the end option, a lone code octet, a value cut short (R160, D32). -/
def StopsWalk (tail : Octets) : Prop :=
  tail = [] ∨ (∃ rest, tail = tlvEnd ++ rest) ∨ (∃ c : Octet, c ≠ 0 ∧ c ≠ 255 ∧ tail = [c])
    ∨ ∃ (c n : Octet) (v : Octets), c ≠ 0 ∧ c ≠ 255 ∧ v.length < n.toNat ∧ tail = [c, n] ++ v

/-- At a stop nothing is delivered, whatever fuel is left. -/
theorem tlvWalkFrom_of_stopsWalk (fuel : Nat) {tail : Octets} (h : StopsWalk tail) : tlvWalkFrom fuel tail = [] := by
  cases fuel with
  | zero => rfl
  | succ fuel =>
    rcases h with rfl | ⟨rest, rfl⟩ | ⟨c, h0, h255, rfl⟩ | ⟨c, n, v, h0, h255, hcut, rfl⟩
    · rfl
    · rfl
    · exact (if_neg h255).trans (if_neg h0)
    · exact (if_neg h255).trans ((if_neg h0).trans (if_pos hcut))

/-- Each pad takes one turn and delivers nothing. -/
theorem tlvWalkFrom_pads (k fuel : Nat) (b : Octets) : tlvWalkFrom (k + fuel) (List.replicate k 0 ++ b) = tlvWalkFrom fuel b := by
  induction k with
  | zero => rw [Nat.zero_add]; rfl
  | succ k ih => rw [Nat.succ_add]; exact ih

/-- An encoded option takes one turn and is delivered with its length; the walk goes on after it. -/
theorem tlvWalkFrom_tlvEncode (fuel : Nat) {c : Octet} {v : Octets} (h0 : c ≠ 0) (h255 : c ≠ 255) (hv : v.length ≤ 255)
    (rest : Octets) : tlvWalkFrom (fuel + 1) (tlvEncode c v ++ rest) = (c, v.length, v) :: tlvWalkFrom fuel rest := by
  rw [tlvWalkFrom, caseOption_tlvEncode h0 h255 hv]
  split_ifs with h1 h3 <;> simp only [*]

theorem length_tlvEncode (c : Octet) (v : Octets) : (tlvEncode c v).length = v.length + 2 := rfl

/-- The octets of a list of options, each with its number of pads before its code and value. -/
def encodeOptions (opts : List (Nat × Octet × Octets)) : Octets :=
  opts.flatMap fun o => List.replicate o.1 0 ++ tlvEncode o.2.1 o.2.2

/-- The walk over padded options delivers them in order, up to the stop that follows the last pads. -/
theorem tlvWalkFrom_encodeOptions (opts : List (Nat × Octet × Octets)) (pads : Nat) {tail : Octets} (htail : StopsWalk tail)
    (hopts : ∀ o ∈ opts, o.2.1 ≠ 0 ∧ o.2.1 ≠ 255 ∧ o.2.2.length ≤ 255) (fuel : Nat)
    (hfuel : (encodeOptions opts ++ (List.replicate pads 0 ++ tail)).length ≤ fuel) :
    tlvWalkFrom fuel (encodeOptions opts ++ (List.replicate pads 0 ++ tail)) = opts.map fun o => (o.2.1, o.2.2.length, o.2.2) := by
  induction opts generalizing fuel with
  | nil =>
    obtain ⟨left, rfl⟩ : ∃ left, fuel = pads + left := Nat.exists_eq_add_of_le (by simp [encodeOptions] at hfuel; omega)
    exact (tlvWalkFrom_pads ..).trans (tlvWalkFrom_of_stopsWalk left htail)
  | cons o opts ih =>
    obtain ⟨k, c, v⟩ := o
    obtain ⟨⟨h0, h255, hv⟩, hopts⟩ := List.forall_mem_cons.mp hopts
    simp only [encodeOptions, List.flatMap_cons, List.append_assoc, List.length_append, List.length_replicate,
      length_tlvEncode] at ih hfuel ⊢
    obtain ⟨left, rfl⟩ : ∃ left, fuel = k + (left + 1) := ⟨fuel - k - 1, by omega⟩
    rw [tlvWalkFrom_pads, tlvWalkFrom_tlvEncode left h0 h255 hv, ih hopts left (by omega), List.map_cons]

/-- Settles O13: the walk starts behind the octets before the offset, with a turn for each octet. -/
theorem tlvWalkOfEncoded : Obligations.TlvWalkOfEncoded := by
  refine ⟨fun _ _ => rfl, rfl, fun before opts pads tail hopts htail => ?_⟩
  simp only [List.append_assoc, tlvWalk, List.drop_left]
  exact tlvWalkFrom_encodeOptions opts pads htail hopts _ (by simp [encodeOptions])

end Sys2Proof.Machine

/-! PROOFS. The receive arms of ARP, UDP and the DHCP options (R190, R250, R267). -/

namespace Sys2Proof.Machine

/-! ### Dispatches as outcomes -/

theorem exec_ethRxArp (p : Octets) (s : State) :
    exec (.ethRxArp p) s =
      if p.length < 28 then .next (s.raiseDrop .malformedPacket)
      else if be16 p 6 = 1#16 then exec (.arpRxRequest (macAt p 8) (be32 p 14) (be32 p 24)) s
      else exec (.arpRxOther (be16 p 6) (macAt p 8) (be32 p 14) (be32 p 24)) s :=
  (apply_ite Host.Outcome.next _ _ _).trans (congrArg _ (apply_ite Host.Outcome.next _ _ _))

theorem exec_ipRxUdp (src : Word32) (b : Octets) (s : State) :
    exec (.ipRxUdp src b) s =
      if b.length < 8 then .next (s.raiseDrop .malformedPacket)
      else if be16 b 2 = 68#16 then exec (.udpRxDhcpClient (b.drop 8)) s
      else exec (.udpRxOther (be16 b 2)) s :=
  (apply_ite Host.Outcome.next _ _ _).trans (congrArg _ (apply_ite Host.Outcome.next _ _ _))

/-! ### ARP (R190, R192) -/

theorem arpLearn_of_eq {tpa : Word32} {s : State} (h : tpa = s.ownIp) (sha : Mac) (spa : Word32) (after : State → State) :
    arpLearn sha spa tpa s after = (after (s.setArpCache spa sha)).endRx := if_neg (not_not.mpr h)

theorem arpLearn_of_ne {tpa : Word32} {s : State} (h : tpa ≠ s.ownIp) (sha : Mac) (spa : Word32) (after : State → State) :
    arpLearn sha spa tpa s after = s.raiseDrop .arpNotForUs := if_pos h

/-- Settles O20: the dispatch by opcode, then the shared part of both arms for an address of ours and for another. -/
theorem arpReceive : Obligations.ArpReceive := by
  intro op sha spa tpa s
  refine ⟨fun p => exec_ethRxArp p s, fun h => ⟨?_, ?_⟩, fun h => ⟨?_, ?_⟩⟩
  · exact congrArg Host.Outcome.next (arpLearn_of_eq h ..)
  · exact congrArg Host.Outcome.next (arpLearn_of_eq h ..)
  · exact congrArg Host.Outcome.next (arpLearn_of_ne h ..)
  · exact congrArg Host.Outcome.next (arpLearn_of_ne h ..)

/-! ### UDP (R250) -/

/-- Settles O31: the dispatch by destination port, and the drop of every port but 68. -/
theorem udpReceive : Obligations.UdpReceive :=
  fun src s => ⟨fun b => exec_ipRxUdp src b s, fun _ => rfl⟩

/-! ### DHCP options (R160, R267) -/

/-- Settles O36: by the length of the value in the two arms that write. -/
theorem dhcpOptionArms : Obligations.DhcpOptionArms := by
  intro c v s
  refine ⟨rfl, rfl, rfl, fun h => ?_, fun h => ?_, fun h => ?_, fun h => ?_⟩
  · exact congrArg Host.Outcome.next (if_pos h)
  · exact congrArg Host.Outcome.next (if_neg (Nat.not_le.mpr h))
  · exact congrArg Host.Outcome.next (if_pos h)
  · exact congrArg Host.Outcome.next (if_neg (Nat.not_le.mpr h))

end Sys2Proof.Machine

/-! PROOFS. The arms of TCP.RX on the record the lookup finds (R301, R302, R304, R305, R307, R309, R310). -/

namespace Sys2Proof.Machine

/-! ### Running an arm on a record -/

section

variable {src : Word32} {seg : TcpSeg} {s : State} {c : Conn}

/-- The key of an arm on a record is met: the arm runs on the record found (R107). -/
theorem onConn_of_found (hf : s.lookupSegment src seg = some c) {st : TcpState} (hst : c.state = st) (arm : Conn → State) :
    onConn src seg st s arm = .next (arm c) := by
  simp only [onConn, hf, if_pos hst]

/-- The key of a NOCONN arm is met: the arm runs (R107). -/
theorem onNoConn_of_not_found (hf : s.lookupSegment src seg = none) (t : State) : onNoConn src seg s t = .next t := by
  simp only [onNoConn, hf]

end

/-! ### A segment sent, counted on the record, and the record written back -/

/-- A segment with neither SYN nor FIN and without data takes no sequence number (R299). -/
theorem countSegment_ack (c : Conn) : c.countSegment flagAck [] = c := by
  have hseq : c.seqNumber + 0#32 = c.seqNumber := BitVec.add_zero _
  exact congrArg (fun q => { c with seqNumber := q }) hseq

/-- A record written back under its handle, at the end of an event that has sent segments and nothing else: table and result. -/
theorem setConn_endRx_of_frame {s t : State} {c c' : Conn} (htable : t.connTable = s.connTable) (hresults : t.results = s.results)
    (hhandle : c'.handle = c.handle) :
    (t.setConn c').endRx = { t with
      connTable := s.connTable.map fun d => if d.handle = c.handle then c' else d
      results := s.results ++ [.rx none] } := by
  rw [← htable, ← hresults, ← hhandle]; rfl

@[simp] theorem ringPush_handle (cfg : Config) (c : Conn) (d : Octets) : (ringPush cfg c d).2.handle = c.handle := by
  rw [ringPush_frame]

@[simp] theorem ringPush_seqNumber (cfg : Config) (c : Conn) (d : Octets) : (ringPush cfg c d).2.seqNumber = c.seqNumber := by
  rw [ringPush_frame]

/-- Settles O42: the arm the state names, its one segment counted and the record written back. -/
theorem handshakeArms : Obligations.HandshakeArms := by
  rintro src seg s c a hf rfl
  refine ⟨fun hst => ?_, fun hst => ?_⟩
  · refine (onConn_of_found hf hst _).trans (congrArg Host.Outcome.next ?_)
    exact setConn_endRx_of_frame (emitSeg_connTable ..) (emitSeg_results ..) rfl
  · refine (onConn_of_found hf hst _).trans (congrArg Host.Outcome.next ?_)
    rw [armSynSent, countSegment_ack]
    exact setConn_endRx_of_frame (emitSeg_connTable ..) (emitSeg_results ..) rfl

/-- The FIN step (R305) on a record `c'` that `c` has become, in an event that has sent segments and nothing else; `f` is the record
whose `ack_number` counts data and FIN. -/
theorem armEstablishedFin_of_frame {cfg : Config} {seg : TcpSeg} {s t : State} {c c' f : Conn}
    (htable : t.connTable = s.connTable) (hresults : t.results = s.results) (hhandle : c'.handle = c.handle)
    (hseq : c'.seqNumber = c.seqNumber) (hf : f = { c' with ackNumber := seg.seq + BitVec.ofNat 32 (seg.data.length + 1) }) :
    armEstablishedFin cfg seg c' t =
      { emitSeg cfg f 0x11 [] (emitSeg cfg f 0x10 [] t) with
        connTable := s.connTable.map fun d =>
          if d.handle = c.handle then { f with seqNumber := c.seqNumber + 1, state := .lastAck } else d
        results := s.results ++ [.rx none] } := by
  subst hf
  rw [armEstablishedFin, countSegment_ack, ← hseq]
  exact setConn_endRx_of_frame (by simp [htable]) (by simp [hresults]) hhandle

/-- Settles O44: the data step, then its record written back, or the FIN step on that record. -/
theorem establishedData : Obligations.EstablishedData := by
  rintro src seg s c a f hf hst rfl rfl
  refine ⟨fun hfin => ?_, fun hfin => ?_⟩
  · have hno : ¬ hasFin seg.flags = true := fun h => (hasFin_iff _).mp h hfin
    refine (onConn_of_found hf hst _).trans (congrArg Host.Outcome.next ?_)
    rw [armEstablishedData, countSegment_ack, if_neg hno]
    exact setConn_endRx_of_frame (emitSeg_connTable ..) (emitSeg_results ..) (ringPush_handle ..)
  · refine (onConn_of_found hf hst _).trans (congrArg Host.Outcome.next ?_)
    rw [armEstablishedData, countSegment_ack, if_pos ((hasFin_iff _).mpr hfin)]
    exact armEstablishedFin_of_frame (emitSeg_connTable ..) (emitSeg_results ..) (ringPush_handle ..) (ringPush_seqNumber ..) rfl

/-- Settles O45: each arm on the record found; the record is written back, or removed, or left. -/
theorem closingArms : Obligations.ClosingArms := by
  rintro src seg s c a hf rfl
  refine ⟨fun hst => ?_, fun hst => ?_, fun hst => ?_, onConn_of_found hf rfl _⟩
  · exact (onConn_of_found hf hst _).trans (congrArg Host.Outcome.next (armEstablishedFin_of_frame rfl rfl rfl rfl rfl))
  · refine (onConn_of_found hf hst _).trans (congrArg Host.Outcome.next ?_)
    rw [armFinWait2, countSegment_ack]
    exact setConn_endRx_of_frame (emitSeg_connTable ..) (emitSeg_results ..) rfl
  · refine (onConn_of_found hf hst _).trans (congrArg Host.Outcome.next ?_)
    simp [armTimeWait, State.removeConn, State.endRx, State.finish]

/-! ### A segment for no record (R297) -/

section

variable {cfg : Config} {lip rip : Word32} {lp rp : Word16} {st : TcpState} {s : State}

/-- A full table: no record is created (R295). -/
theorem createConn_of_full (hfull : s.tableFull cfg = true) : createConn cfg lip rip lp rp st s = none := by
  simp [createConn, hfull]

/-- A free place and no record under the 4-tuple: a record is created (R295). -/
theorem createConn_of_room (hl : s.lookup lip rip lp rp = none) (hroom : s.tableFull cfg = false) :
    createConn cfg lip rip lp rp st s =
      some (newConn cfg s.nextHandle lip rip lp rp st (cfg.isn s.isnDraws), { s with
        nextHandle := s.nextHandle + 1
        isnDraws := s.isnDraws + 1
        connTable := s.connTable ++ [newConn cfg s.nextHandle lip rip lp rp st (cfg.isn s.isnDraws)] }) := by
  simp [createConn, hl, hroom]

end

/-- The bucket after a SYN, with its start and its count named (R297). -/
theorem countSyn_eq {cfg : Config} {now start count : Nat} {s : State}
    (h : (start, count) = if now < s.synBucketStart ∨ cfg.ticksPerSecond ≤ now - s.synBucketStart then (now, 1)
      else (s.synBucketStart, s.synCount + 1)) :
    countSyn cfg now s = { s with synBucketStart := start, synCount := count } := by
  split_ifs at h with hb <;> cases h
  · exact countSyn_restart hb
  · exact countSyn_count hb

/-- A record just added at the end of the table and written back, at the end of an event that has sent segments and nothing else. -/
theorem setConn_endRx_of_append {s t : State} {c c' : Conn} {l : List Conn} (htable : t.connTable = l ++ [c])
    (hresults : t.results = s.results) (hhandle : c'.handle = c.handle) (hf : ∀ d ∈ l, d.handle < c.handle) :
    (t.setConn c').endRx = { t with connTable := l ++ [c'], results := s.results ++ [.rx none] } := by
  rw [setConn_append_fresh htable hhandle hf, ← hresults]; rfl

/-- The LISTEN arm on the record just created: its segment is sent and it stands last in the table (R297, R301). -/
theorem armListen_of_created {cfg : Config} {seg : TcpSeg} {c : Conn} {l : List Conn} {s : State} (hs : s.connTable = l ++ [c])
    (now : Nat) (hf : ∀ d ∈ l, d.handle < c.handle) {a : Conn}
    (ha : a = { c with ackNumber := seg.seq + 1, synTimestamp := now }) :
    armListen cfg seg { c with synTimestamp := now } s = { emitSeg cfg a 0x12 [] s with
      connTable := l ++ [{ a with seqNumber := a.seqNumber + 1, state := .synReceived }]
      results := s.results ++ [.rx none] } := by
  subst ha
  exact setConn_endRx_of_append ((emitSeg_connTable ..).trans hs) (emitSeg_results ..) rfl hf

section

variable {cfg : Config} {src : Word32} {seg : TcpSeg} {now : Nat} {s u : State}

/-- A SYN over the limit, `u` the state with it counted, is logged and dropped (R297). -/
theorem noConnSyn_of_flood (hu : countSyn cfg now s = u) (h : synFloodLimit < u.synCount) :
    noConnSyn cfg src seg now s = (u.emit (.log .warn (.synFlood src seg.dstPort))).raiseDrop .synFloodThreshold := by
  subst hu
  exact if_pos h

/-- A SYN within the limit that finds the table full is dropped, the bucket kept (R297). -/
theorem noConnSyn_of_full (hu : countSyn cfg now s = u) (h : u.synCount ≤ synFloodLimit) (hfull : u.tableFull cfg = true) :
    noConnSyn cfg src seg now s = u.raiseDrop .allocationFailure := by
  subst hu
  simp only [noConnSyn, if_neg (Nat.not_lt.mpr h), createConn_of_full hfull]

/-- A SYN within the limit for which a record is created: the LISTEN arm runs on it, stamped with `now` (R297). -/
theorem noConnSyn_of_created {t : State} {c : Conn} (hu : countSyn cfg now s = u) (h : u.synCount ≤ synFloodLimit)
    (hc : createConn cfg u.ownIp src seg.dstPort seg.srcPort .listen u = some (c, t)) :
    noConnSyn cfg src seg now s = armListen cfg seg { c with synTimestamp := now } t := by
  subst hu
  simp only [noConnSyn, if_neg (Nat.not_lt.mpr h), hc]

end

/-- Sending reads none of the registers that a SYN for no record writes before it is answered (R297, R299). -/
theorem emitSeg_comm_synRegisters (cfg : Config) (c : Conn) (fl : Octet) (d : Octets) (s : State) (count start handle : Nat)
    (table : List Conn) (draws : Nat) :
    emitSeg cfg c fl d { s with
      synCount := count, synBucketStart := start, nextHandle := handle, connTable := table, isnDraws := draws } =
    { emitSeg cfg c fl d s with
      synCount := count, synBucketStart := start, nextHandle := handle, connTable := table, isnDraws := draws } :=
  (emitSeg_comm cfg c fl d s s.nextEphemeral count start handle table draws).trans (by simp only [emitSeg_nextEphemeral])

/-- Settles O41: the SYN bit, then the bucket, then the table. -/
theorem noConnectionArm : Obligations.NoConnectionArm := by
  intro src seg now start count s hf hbucket
  have hcounted := countSyn_eq hbucket
  have hexec := onNoConn_of_not_found hf (noConnSyn Config.chip src seg now s)
  refine ⟨instrOfSegment_none_eq_other_iff.mpr, instrOfSegment_none_eq_syn_iff.mpr, onNoConn_of_not_found hf _, fun hflood => ?_,
    fun hcalm hfull => ?_, fun hcalm hroom hfresh c hc => ?_⟩
  · exact hexec.trans (congrArg Host.Outcome.next (noConnSyn_of_flood hcounted hflood))
  · exact hexec.trans (congrArg Host.Outcome.next (noConnSyn_of_full hcounted hcalm hfull))
  · refine hexec.trans (congrArg Host.Outcome.next ((noConnSyn_of_created hcounted hcalm (createConn_of_room hf hroom)).trans ?_))
    rw [armListen_of_created rfl now hfresh hc, emitSeg_comm_synRegisters _ _ _ _ s count start]

end Sys2Proof.Machine

/-! PROOFS. Serialization (R140 to R143, R150 to R152): the big-endian fields and their round trips, a field written into a string, and
the checksum that an inserted checksum leaves. -/

namespace Sys2Proof.Machine

/-! ### Big-endian fields (R140 to R143) -/

/-- Joining an octet below a value shifts the value by an octet: one step of R140 and R141. -/
theorem toNat_append_octet {w : Nat} (v : BitVec w) (o : Octet) : (v ++ o).toNat = v.toNat * 256 + o.toNat := by
  rw [BitVec.toNat_append, ← Nat.shiftLeft_add_eq_or_of_lt o.isLt, Nat.shiftLeft_eq]

theorem be32_toNat (b : Octets) (i : Nat) :
    (be32 b i).toNat =
      (octetAt b i).toNat * 2 ^ 24 + (octetAt b (i + 1)).toNat * 2 ^ 16 + (octetAt b (i + 2)).toNat * 2 ^ 8
        + (octetAt b (i + 3)).toNat := by
  simp only [be32, toNat_append_octet]
  omega

/-- The octet at bit `n` of a value, as R142 and R143 write it. -/
theorem extractOctet_eq_ofNat {w : Nat} (v : BitVec w) (n : Nat) : v.extractLsb' n 8 = BitVec.ofNat 8 (v.toNat / 2 ^ n) :=
  congrArg (BitVec.ofNat 8) (Nat.shiftRight_eq_div_pow _ _)

theorem put16_eq (v : Word16) : put16 v = [BitVec.ofNat 8 (v.toNat / 256), BitVec.ofNat 8 v.toNat] := by
  simp only [put16, extractOctet_eq_ofNat, Nat.pow_zero, Nat.div_one, Nat.reducePow]

theorem put32_eq (v : Word32) :
    put32 v =
      [BitVec.ofNat 8 (v.toNat / 2 ^ 24), BitVec.ofNat 8 (v.toNat / 2 ^ 16), BitVec.ofNat 8 (v.toNat / 2 ^ 8), BitVec.ofNat 8 v.toNat] := by
  simp only [put32, extractOctet_eq_ofNat, Nat.pow_zero, Nat.div_one]

/-- Two octets joined are written as these two octets (R142). -/
theorem put16_append (a b : Octet) : put16 (a ++ b) = [a, b] :=
  congrArg₂ (fun hi lo => [hi, lo]) BitVec.extractLsb'_append_eq_left BitVec.extractLsb'_append_eq_right

/-- The octets above the lowest one of a value joined with an octet are those of the value. -/
theorem extractOctet_append {w : Nat} (v : BitVec w) (o : Octet) (n : Nat) :
    (v ++ o).extractLsb' (n + 8) 8 = v.extractLsb' n 8 :=
  BitVec.extractLsb'_append_eq_of_le (Nat.le_add_left 8 n)

/-- Four octets joined are written as these four octets (R143). -/
theorem put32_append (a b c d : Octet) : put32 (a ++ b ++ c ++ d) = [a, b, c, d] := by
  simp only [put32, extractOctet_append, BitVec.extractLsb'_append_eq_right, BitVec.extractLsb'_eq_self]

/-- Settles O10: the values, the octets, and for both widths the two laws. -/
theorem bigEndianRoundTrips : Obligations.BigEndianRoundTrips :=
  ⟨be16_toNat, be32_toNat, put16_eq, put32_eq, half_of_octets, put16_append, word_of_octets, put32_append⟩

/-! ### A 16-bit field written into a string (R14, R152) -/

/-- Writing back the two octets that stand at an offset changes nothing. -/
theorem setHalfAt_be16 {b : Octets} {k : Nat} (h : k + 2 ≤ b.length) : setHalfAt b k (be16 b k) = b := by
  have hfield : put16 (be16 b k) ++ b.drop (k + 2) = b.drop k := by
    rw [be16, put16_append, octetAt_eq_getElem (show k < b.length by omega), octetAt_eq_getElem (show k + 1 < b.length by omega),
      List.drop_eq_getElem_cons (show k < b.length by omega), List.drop_eq_getElem_cons (show k + 1 < b.length by omega)]
    rfl
  rw [setHalfAt, List.append_assoc, hfield, List.take_append_drop]

/-- A written field counts as one word of the sum (R150). -/
theorem wordSum_put16 (v : Word16) : wordSum (put16 v) = v.toNat := by
  have hv : v.toNat = (v.extractLsb' 8 8).toNat * 256 + (v.extractLsb' 0 8).toNat := by
    rw [← toNat_append_octet, half_of_octets]
  simp only [put16, wordSum, Nat.add_zero, hv]

/-- A field at an even offset counts in the word sum as its value, next to the words before and after it (R150). -/
theorem wordSum_setHalfAt {b : Octets} {k : Nat} (hk : k % 2 = 0) (h : k + 2 ≤ b.length) (v : Word16) :
    wordSum (setHalfAt b k v) = wordSum (b.take k) + v.toNat + wordSum (b.drop (k + 2)) := by
  have htake : (b.take k).length % 2 = 0 := by rw [List.length_take_of_le (by omega), hk]
  have hput : (put16 v).length % 2 = 0 := by rw [length_put16]
  rw [setHalfAt, List.append_assoc, wordSum_append _ _ htake, wordSum_append _ _ hput, wordSum_put16, Nat.add_assoc]

/-- Writing into a field that holds 0 adds the value written to the word sum (R152). -/
theorem wordSum_setHalfAt_of_zero {b : Octets} {k : Nat} (hk : k % 2 = 0) (h : k + 2 ≤ b.length) (h0 : be16 b k = 0) (v : Word16) :
    wordSum (setHalfAt b k v) = wordSum b + v.toNat := by
  have hb : wordSum b = wordSum (b.take k) + 0 + wordSum (b.drop (k + 2)) := by
    rw [← BitVec.toNat_zero (w := 16), ← wordSum_setHalfAt hk h]
    exact congrArg wordSum (h0 ▸ setHalfAt_be16 h).symm
  rw [wordSum_setHalfAt hk h, hb]
  omega

/-! ### The checksum that an inserted checksum leaves (R150 to R152) -/

/-- The checksum is the complement of the folded sum: the fold fits 16 bits, so nothing is cut off (R150). -/
theorem checksum_toNat (b : Octets) : (checksum b).toNat = 65535 - foldCarries (wordSum b) (wordSum b) :=
  Nat.mod_eq_of_lt (Nat.lt_succ_of_le (Nat.sub_le _ _))

/-- The checksum makes up the word sum to a multiple of 65535 (R151 a). -/
theorem wordSum_add_checksum_mod (b : Octets) : (wordSum b + (checksum b).toNat) % 65535 = 0 := by
  have hlt := foldCarries_lt _ _ (le_refl (wordSum b))
  have hmod := foldCarries_mod (wordSum b) (wordSum b)
  rw [checksum_toNat]
  omega

/-- A string verifies when its word sum is a multiple of 65535 other than 0: a sum of 0 folds to 0, any other such sum to 65535. -/
theorem checksum_eq_zero_iff (b : Octets) : checksum b = 0 ↔ 0 < wordSum b ∧ wordSum b % 65535 = 0 := by
  have hlt := foldCarries_lt _ _ (le_refl (wordSum b))
  have hmod := foldCarries_mod (wordSum b) (wordSum b)
  have hpos := foldCarries_pos (wordSum b) (wordSum b)
  have hzero : wordSum b = 0 → foldCarries (wordSum b) (wordSum b) = 0 := fun h => by rw [h]; rfl
  rw [← BitVec.toNat_inj, checksum_toNat, show (0 : Word16).toNat = 0 from rfl]
  omega

/-- The word sum and the checksum are not both 0 (R151 d). -/
theorem wordSum_add_checksum_pos (b : Octets) : 0 < wordSum b + (checksum b).toNat := by
  by_contra h
  have hsum : wordSum b = 0 := by omega
  have hck : (checksum b).toNat = 0 := by omega
  have hpos := ((checksum_eq_zero_iff b).mp (BitVec.eq_of_toNat_eq hck)).1
  omega

/-- Settles O12: the insertion adds the checksum to the word sum, and the two together are a positive multiple of 65535. -/
theorem insertedChecksumVerifies : Obligations.InsertedChecksumVerifies := by
  intro p h k hp hk hlen h0 h1
  have hfield : be16 h k = 0 := by rw [be16, h0, h1]; rfl
  have hsum : wordSum (p ++ insertChecksum p h k) = wordSum (p ++ h) + (checksum (p ++ h)).toNat := by
    rw [wordSum_append _ _ hp, insertChecksum, wordSum_setHalfAt_of_zero hk hlen hfield, wordSum_append _ _ hp, Nat.add_assoc]
  rw [checksum_eq_zero_iff, hsum]
  exact ⟨wordSum_add_checksum_pos _, wordSum_add_checksum_mod _⟩

end Sys2Proof.Machine

/-! PROOFS. The Ethernet layer (R170 to R176): the frame ETH.SEND emits, the step a received frame takes, and the arms that run the next
layer. -/

namespace Sys2Proof.Machine

/-! ### A function of what a dispatch answers is the dispatch on that function of each arm -/

section

variable {α β : Type}

theorem apply_caseFrame (g : α → β) (f : Octets) (malformed : α) (ipv4 ipv4Swapped arp arpSwapped : Octets → α)
    (unknown : Word16 → α) :
    g (caseFrame f malformed ipv4 ipv4Swapped arp arpSwapped unknown) =
      caseFrame f (g malformed) (fun p => g (ipv4 p)) (fun p => g (ipv4Swapped p)) (fun p => g (arp p)) (fun p => g (arpSwapped p))
        fun t => g (unknown t) := by
  simp only [caseFrame, apply_ite g]

theorem apply_caseArp (g : α → β) (p : Octets) (malformed : α) (request : Mac → Word32 → Word32 → α)
    (other : Word16 → Mac → Word32 → Word32 → α) :
    g (caseArp p malformed request other) =
      caseArp p (g malformed) (fun sha spa tpa => g (request sha spa tpa)) fun op sha spa tpa => g (other op sha spa tpa) := by
  simp only [caseArp, apply_ite g]

theorem apply_caseIp (g : α → β) (b : Octets) (malformed : α) (icmp tcp udp : Word32 → Octets → α) (unknown : Octet → α) :
    g (caseIp b malformed icmp tcp udp unknown) =
      caseIp b (g malformed) (fun src p => g (icmp src p)) (fun src p => g (tcp src p)) (fun src p => g (udp src p))
        fun proto => g (unknown proto) := by
  simp only [caseIp, apply_ite g]

end

/-! ### The operations as the instructions the decoder names -/

/-- IP.RX is the arm the packet decodes to, run in the same operation (R210). -/
theorem next_ipRx_eq_runNested (b : Octets) (now : Nat) (s : State) :
    Host.Outcome.next (ipRx Config.chip b now s) = s.runNested (decodeIp b now) := by
  rw [ipRx, decodeIp, apply_caseIp Host.Outcome.next, apply_caseIp s.runNested]
  rfl

/-- ARP.RX is the arm the packet decodes to, run in the same operation (R190). -/
theorem next_arpRx_eq_runNested (p : Octets) (s : State) :
    Host.Outcome.next (arpRx Config.chip p s) = s.runNested (decodeArp p) := by
  rw [arpRx, decodeArp, apply_caseArp Host.Outcome.next, apply_caseArp s.runNested]
  rfl

/-- What a step does with what its event decodes to: the instruction runs, or the event is rejected. -/
def State.runDecoded (s : State) (r : Except DecodeError Instr) : Out :=
  match r with
  | .ok i => exec i s
  | .error err => s.rejectEvent err

/-- The event delivered is the one the step takes, and what it decodes to is run from the state before the delivery (R17, R70). -/
theorem step_deliver (s : State) (e : Event) : step (s.deliver e) = s.runDecoded (decodeEvent e) := rfl

/-- The step on a received frame is ETH.RX (R17, R170). -/
theorem step_deliver_rx (f : Octets) (now : Nat) (s : State) :
    step (s.deliver (.rx f now)) = .next (ethRx Config.chip f now s) := by
  have hd : decodeEvent (.rx f now) = decodeFrame f now := rfl
  rw [step_deliver, hd, decodeFrame, ethRx, apply_caseFrame s.runDecoded, apply_caseFrame Host.Outcome.next]
  rfl

/-! ### The obligations -/

/-- Settles O15: the send says what is drawn and emitted, the command's end what is returned. -/
theorem exec_ethSend : Obligations.EthSend :=
  fun m t p s => congrArg (fun sent : State => Host.Outcome.next (sent.ret .nothing)) (ethSend_eq Config.chip m t p s)

/-- Settles O18: a received frame takes the branch of ETH.RX its type selects, with the two byte orders of a type in one; a layer's
operation is the nested arm, and each Ethernet arm is such an operation. -/
theorem ethernetDispatch : Obligations.EthernetDispatch := by
  refine ⟨fun f now s => ?_, fun p now s => ?_⟩
  · rw [step_deliver_rx, ethRx, apply_caseFrame Host.Outcome.next, ← next_ipRx_eq_runNested, ← next_arpRx_eq_runNested, ite_or,
      ite_or]
    rfl
  · have hip := next_ipRx_eq_runNested p now s
    have harp := next_arpRx_eq_runNested p s
    exact ⟨hip, hip, harp, harp, ⟨_, rfl⟩, ⟨_, rfl⟩, ⟨_, rfl⟩, ⟨_, rfl⟩⟩

end Sys2Proof.Machine

/-! PROOFS. The ARP resolver (R194 to R196): the packet it builds, the request it sends, and the two outcomes of ARP.RESOLVE. -/

namespace Sys2Proof.Machine

/-! ### The packet and the request -/

/-- The fields of R93 in their order, the fixed ones as octets. -/
theorem buildArp_layout (cfg : Config) (ownIp : Word32) (op : Word16) (tha : Mac) (tpa : Word32) :
    buildArp cfg ownIp op tha tpa =
      [0x00, 0x01, 0x08, 0x00, 0x06, 0x04] ++ put16 op ++ cfg.ownMac.octets ++ put32 ownIp ++ tha.octets ++ put32 tpa
        ++ List.replicate 18 0 := rfl

@[simp] theorem length_buildArp (cfg : Config) (ownIp : Word32) (op : Word16) (tha : Mac) (tpa : Word32) :
    (buildArp cfg ownIp op tha tpa).length = 46 := by
  simp [buildArp]

theorem length_ethFrame (cfg : Config) (dest : Mac) (t : Word16) (p : Octets) : (ethFrame cfg dest t p).length = 14 + p.length := by
  simp [ethFrame]; omega

/-- The frame ARP.REQUEST broadcasts from this state (R195). -/
def arpRequestFrame (cfg : Config) (target : Word32) (s : State) : Octets :=
  ethFrame cfg broadcastMac 0x0806#16 (buildArp cfg s.ownIp 1#16 zeroMac target)

/-- ARP.REQUEST makes one draw, for the length of its frame, and emits that frame or nothing (R176, R195). -/
theorem arpRequest_eq (cfg : Config) (target : Word32) (s : State) :
    arpRequest cfg target s =
      { s with
        txDraws := s.txDraws + 1
        effects := s.effects ++
          if cfg.txAlloc s.txDraws (arpRequestFrame cfg target s).length then [.tx (arpRequestFrame cfg target s)] else [] } := by
  rw [arpRequest, ethSend_eq, ← length_ethFrame cfg broadcastMac 0x0806#16]
  rfl

/-! ### The resolver on a hit and on a miss (R196) -/

theorem resolvedMac_hit {target : Word32} {s : State} (h : target = s.arpCache.ip) : resolvedMac s target = s.arpCache.mac := if_pos h

theorem resolvedMac_miss {target : Word32} {s : State} (h : target ≠ s.arpCache.ip) : resolvedMac s target = broadcastMac := if_neg h

theorem arpResolveCommand_hit (cfg : Config) {target : Word32} {s : State} (h : target = s.arpCache.ip) :
    arpResolveCommand cfg target s = s.ret (.mac s.arpCache.mac) := by
  rw [arpResolveCommand, arpResolve_hit cfg h, resolvedMac_hit h]

theorem arpResolveCommand_miss (cfg : Config) {target : Word32} {s : State} (h : target ≠ s.arpCache.ip) :
    arpResolveCommand cfg target s = (arpRequest cfg target s).ret (.mac broadcastMac) := by
  rw [arpResolveCommand, arpResolve_miss cfg h, resolvedMac_miss h]

/-- Settles O21: a hit only returns, and on a miss both commands are the one request, each with its own return value. -/
theorem arpResolution : Obligations.ArpResolution := by
  refine ⟨fun ownIp op tha tpa => ⟨buildArp_layout .., length_buildArp ..⟩, fun target s => ⟨fun hit => ?_, fun miss => ?_⟩⟩
  · exact congrArg Host.Outcome.next (arpResolveCommand_hit Config.chip hit)
  · have hreq := arpRequest_eq Config.chip target s
    refine ⟨arpRequestFrame Config.chip target s, ?_, ?_⟩
    · exact congrArg (fun sent : State => Host.Outcome.next (sent.ret .nothing)) hreq
    · have hres := (arpResolveCommand_miss Config.chip miss).trans (congrArg (State.ret · (.mac broadcastMac)) hreq)
      exact congrArg Host.Outcome.next hres

end Sys2Proof.Machine

/-! PROOFS. The IPv4 layer (R210 to R230): the next hop and the frames of IP.SEND, the accessors, and the dispatch of a received
packet down to the arm of the layer above. -/

namespace Sys2Proof.Machine

/-! ### IP.SEND: a packet to a resolved next hop (R218 to R222) -/

@[simp] theorem length_buildIpHeader (ownIp dest : Word32) (protocol : Octet) (n : Nat) :
    (buildIpHeader ownIp dest protocol n).length = 20 := rfl

/-- The draw of a packet's frame is for 14 octets of Ethernet header, 20 of IPv4 header and the payload (R176, R219). -/
theorem length_ipFrame (ownIp dest : Word32) (protocol : Octet) (p : Octets) :
    14 + (buildIpHeader ownIp dest protocol p.length ++ p).length = 34 + p.length := by
  rw [List.length_append, length_buildIpHeader]; omega

/-- The next hop is cached: one send, to the cached MAC (R196, R218). -/
theorem ipSend_hit (cfg : Config) {dest : Word32} {s : State} (h : s.nextHop dest = s.arpCache.ip) (protocol : Octet) (p : Octets) :
    ipSend cfg dest protocol p s =
      ethSend cfg s.arpCache.mac 0x0800#16 (buildIpHeader s.ownIp dest protocol p.length ++ p) s := by
  rw [ipSend, arpResolve_hit cfg h, resolvedMac_hit h]

/-- The next hop is not cached: the request for it, then one send to the broadcast MAC (R196, R218, R221). -/
theorem ipSend_miss (cfg : Config) {dest : Word32} {s : State} (h : s.nextHop dest ≠ s.arpCache.ip) (protocol : Octet) (p : Octets) :
    ipSend cfg dest protocol p s =
      ethSend cfg broadcastMac 0x0800#16 (buildIpHeader s.ownIp dest protocol p.length ++ p)
        (arpRequest cfg (s.nextHop dest) s) := by
  rw [ipSend, arpResolve_miss cfg h, resolvedMac_miss h]

/-- Within the bound of R222 the command sends and returns. -/
theorem exec_ipSend_of_le {p : Octets} (h : p.length ≤ 65515) (dest : Word32) (protocol : Octet) (s : State) :
    exec (.ipSend dest protocol p) s = .next ((ipSend Config.chip dest protocol p s).ret .nothing) := if_neg (Nat.not_lt.mpr h)

/-- Settles O24: by the resolver's two outcomes for the next hop; on a miss the second draw is made after the request's. -/
theorem exec_ipSend : Obligations.IpSend := by
  rintro dest protocol p s hop hlen rfl
  rw [exec_ipSend_of_le hlen, ← length_ipFrame s.ownIp dest protocol]
  refine ⟨fun hit => ?_, fun miss => ?_⟩
  · rw [ipSend_hit Config.chip hit, ethSend_eq]
    rfl
  · rw [ipSend_miss Config.chip miss, ethSend_eq]
    rfl

/-! ### The accessors (R225 to R230) -/

/-- Settles O25: the definitions of the accessors and of the next hop. -/
theorem ipAccessors : Obligations.IpAccessors :=
  fun _ _ => ⟨rfl, rfl, rfl, rfl, rfl, rfl, fun _ => rfl⟩

/-! ### The dispatch of a packet by protocol (R210) -/

theorem exec_ethRxIpv4 (b : Octets) (now : Nat) (s : State) :
    exec (.ethRxIpv4 b now) s =
      caseIp b (.next (s.raiseDrop .malformedPacket)) (fun src p => exec (.ipRxIcmp src p) s) (fun src p => exec (.ipRxTcp src p now) s)
        (fun src p => exec (.ipRxUdp src p) s) fun protocol => exec (.ipRxUnknown protocol) s := by
  have hrx : exec (.ethRxIpv4 b now) s = .next (ipRx Config.chip b now s) := rfl
  rw [hrx, ipRx, apply_caseIp Host.Outcome.next]
  rfl

/-! ### The ICMP and UDP arms are the nested arm (R241, R250) -/

section

variable {α β : Type}

theorem apply_caseIcmp (g : α → β) (b : Octets) (malformed : α) (echoReply : Nat → Word16 → α) (other : Octet → α) :
    g (caseIcmp b malformed echoReply other) = caseIcmp b (g malformed) (fun n q => g (echoReply n q)) fun t => g (other t) := by
  simp only [caseIcmp, apply_ite g]

theorem apply_caseUdp (g : α → β) (b : Octets) (malformed : α) (dhcp : Octets → α) (other : Word16 → α) :
    g (caseUdp b malformed dhcp other) = caseUdp b (g malformed) (fun p => g (dhcp p)) fun port => g (other port) := by
  simp only [caseUdp, apply_ite g]

end

/-- IP.RX.ICMP is the arm the message decodes to, run in the same operation (R210, R241). -/
theorem exec_ipRxIcmp_eq_runNested (src : Word32) (b : Octets) (s : State) :
    exec (.ipRxIcmp src b) s = s.runNested (decodeIcmp src b) := by
  have hrx : exec (.ipRxIcmp src b) s = .next (icmpRx src b s) := rfl
  rw [hrx, icmpRx, decodeIcmp, apply_caseIcmp Host.Outcome.next, apply_caseIcmp s.runNested]
  rfl

/-- IP.RX.UDP is the arm the datagram decodes to, run in the same operation (R210, R250). -/
theorem exec_ipRxUdp_eq_runNested (src : Word32) (b : Octets) (s : State) :
    exec (.ipRxUdp src b) s = s.runNested (decodeUdp b) := by
  have hrx : exec (.ipRxUdp src b) s = .next (udpRx Config.chip b s) := rfl
  rw [hrx, udpRx, decodeUdp, apply_caseUdp Host.Outcome.next, apply_caseUdp s.runNested]
  rfl

/-! ### The TCP arm: parsing, lookup, and the arm the state found selects (R290 to R298) -/

/-- What `ParseTcp` reads at which offset, and when it gives nothing (R105, R291, R292). -/
theorem parseTcp_eq (b : Octets) :
    parseTcp b =
      if b.length < 20 ∨ b.length < tcpHeaderLength b then none
      else some { srcPort := be16 b 0, dstPort := be16 b 2, seq := be32 b 4, ack := be32 b 8, flags := octetAt b 13, window := be16 b 14
                  data := b.drop (tcpHeaderLength b) } := by
  rw [parseTcp, ite_or]

/-- The lookup of a segment as one test of the 4-tuple (R290, R294). -/
theorem lookupSegment_eq (s : State) (src : Word32) (seg : TcpSeg) :
    s.lookupSegment src seg = s.connTable.find? fun c =>
      decide (c.localIp = s.ownIp ∧ c.remoteIp = src ∧ c.localPort = seg.dstPort ∧ c.remotePort = seg.srcPort) := by
  simp only [State.lookupSegment, State.lookup, Bool.decide_and, Bool.and_assoc]

section

variable {src : Word32} {seg : TcpSeg} {s : State}

/-- With no record found, the SYN bit selects the arm and its key is met (R107, R297). -/
theorem exec_instrOfSegment_none (hf : s.lookupSegment src seg = none) (now : Nat) :
    exec (instrOfSegment none src seg now) s = .next (caseNoConn seg (noConnSyn Config.chip src seg now s) (noConnOther s)) := by
  simp only [instrOfSegment, caseNoConn]
  split_ifs <;> exact onNoConn_of_not_found hf _

/-- With a record found, the arm its state selects is the one `StateArm` runs, and its key is met (R107, R298). -/
theorem exec_instrOfSegment_some {c : Conn} (hf : s.lookupSegment src seg = some c) (now : Nat) :
    exec (instrOfSegment (some c.state) src seg now) s = .next (stateArm Config.chip seg c s) := by
  have harm {st : TcpState} (hst : c.state = st) (arm : Conn → State) := onConn_of_found hf hst arm
  rw [instrOfSegment, stateArm]
  cases hst : c.state with
  | closed | closeWait | closing | timeWait => exact harm hst _
  | listen | synSent | synReceived | established | finWait1 | finWait2 | lastAck =>
    simp only [caseState]
    split_ifs <;> exact harm hst _

/-- A segment that parses runs the arm selected by the state its lookup finds (R290, R298). -/
theorem exec_ipRxTcp_of_parsed {b : Octets} (hb : parseTcp b = some seg) (now : Nat) :
    exec (.ipRxTcp src b now) s = exec (instrOfSegment ((s.lookupSegment src seg).map fun c => c.state) src seg now) s := by
  have hrx : exec (.ipRxTcp src b now) s = .next (tcpRx Config.chip src b now s) := rfl
  cases hf : s.lookupSegment src seg with
  | none => simp only [hrx, tcpRx, hb, hf, Option.map_none, exec_instrOfSegment_none hf]
  | some c => simp only [hrx, tcpRx, hb, hf, Option.map_some, exec_instrOfSegment_some hf]

end

/-- A segment too short for its header is dropped (R292). -/
theorem exec_ipRxTcp_of_malformed {b : Octets} (hb : parseTcp b = none) (src : Word32) (now : Nat) (s : State) :
    exec (.ipRxTcp src b now) s = .next (s.raiseDrop .malformedPacket) := by
  have hrx : exec (.ipRxTcp src b now) s = .next (tcpRx Config.chip src b now s) := rfl
  simp only [hrx, tcpRx, hb]

/-- IP.RX.TCP is the arm the segment decodes to with the state its lookup finds, run in the same operation (R210, R290). -/
theorem exec_ipRxTcp_eq_runNested (src : Word32) (b : Octets) (now : Nat) (s : State) :
    exec (.ipRxTcp src b now) s
      = s.runNested (decodeTcp (((parseTcp b).bind fun seg => s.lookupSegment src seg).map fun c => c.state) src b now) := by
  cases hb : parseTcp b with
  | none =>
    rw [exec_ipRxTcp_of_malformed hb, decodeTcp, hb]
    rfl
  | some seg =>
    rw [exec_ipRxTcp_of_parsed hb, decodeTcp, hb]
    rfl

/-- Settles O26: the dispatch by protocol; each arm as the nested arm; and for TCP what the octets parse to, which record is found and
which arm then runs. -/
theorem ipDispatch : Obligations.IpDispatch := by
  refine ⟨?packet, fun src b now s => ⟨exec_ipRxIcmp_eq_runNested .., exec_ipRxUdp_eq_runNested .., exec_ipRxTcp_eq_runNested .., ?tcp,
    ⟨_, rfl⟩, ⟨_, rfl⟩, ⟨_, rfl⟩, fun _ => rfl⟩⟩
  case packet =>
    rintro b now s _ _ _ rfl rfl rfl
    exact exec_ethRxIpv4 b now s
  case tcp =>
    intro seg found hseg hfound
    have hparse := hseg ▸ parseTcp_eq b
    have hlookup : s.lookupSegment src seg = found := by rw [lookupSegment_eq, hfound, hseg]
    refine ⟨hparse, hlookup, ?_⟩
    rw [← hlookup]
    split_ifs at hparse with hshort
    · exact (exec_ipRxTcp_of_malformed hparse src now s).trans (if_pos hshort).symm
    · exact (exec_ipRxTcp_of_parsed hparse now).trans (if_neg hshort).symm

end Sys2Proof.Machine

/-! PROOFS. ICMP (R240, R241): the dispatch of a message by its type, and the echo request that ICMP.ECHO sends. -/

namespace Sys2Proof.Machine

/-! ### ICMP.RX (R241) -/

theorem exec_ipRxIcmp (src : Word32) (b : Octets) (s : State) :
    exec (.ipRxIcmp src b) s =
      if b.length < 8 then .next (s.raiseDrop .malformedPacket)
      else if octetAt b 0 = 0#8 then exec (.icmpRxEchoReply src b.length (be16 b 6)) s
      else exec (.icmpRxOther (octetAt b 0)) s := by
  have hrx : exec (.ipRxIcmp src b) s = .next (icmpRx src b s) := rfl
  rw [hrx, icmpRx, apply_caseIcmp Host.Outcome.next]
  rfl

/-- Settles O29: the dispatch by type, and the definitions of the two arms. -/
theorem icmpReceive : Obligations.IcmpReceive :=
  fun src s => ⟨fun b => exec_ipRxIcmp src b s, fun _ _ => rfl, fun _ => rfl⟩

/-! ### ICMP.ECHO (R240) -/

section

variable (cfg : Config) (ident sequence : Word16)

/-- The echo request with its checksum field still zero, which the checksum is taken over (R152, R240). -/
def echoWithoutChecksum : Octets := [8, 0, 0, 0] ++ put16 ident ++ put16 sequence ++ cfg.icmpPayload

/-- The fields of R240 in their order: the checksum is written over the two zero octets after type and code. -/
theorem buildEcho_layout :
    buildEcho cfg ident sequence =
      [8, 0] ++ put16 (checksum (echoWithoutChecksum cfg ident sequence)) ++ put16 ident ++ put16 sequence ++ cfg.icmpPayload := rfl

theorem length_echoWithoutChecksum : (echoWithoutChecksum cfg ident sequence).length = 40 := by
  simp [echoWithoutChecksum, cfg.icmpPayload_length]

@[simp] theorem length_buildEcho : (buildEcho cfg ident sequence).length = 40 := by
  simp [buildEcho_layout, cfg.icmpPayload_length]

/-- The message sent verifies (R151 a, R152): its checksum field stood at the even offset 2 and held zero. -/
theorem checksum_buildEcho : checksum (buildEcho cfg ident sequence) = 0 := by
  have hroom : 2 + 2 ≤ (echoWithoutChecksum cfg ident sequence).length := by rw [length_echoWithoutChecksum]; decide
  exact insertedChecksumVerifies [] (echoWithoutChecksum cfg ident sequence) 2 rfl rfl hroom rfl rfl

/-- The message is within the bound of R222, so IP.SEND does not refuse it. -/
theorem exec_icmpEcho_eq_ipSend (dest : Word32) (s : State) :
    exec (.icmpEcho dest ident sequence) s = exec (.ipSend dest 1#8 (buildEcho Config.chip ident sequence)) s := by
  have hbound : (buildEcho Config.chip ident sequence).length ≤ 65515 := by rw [length_buildEcho]; decide
  rw [exec_ipSend_of_le hbound]
  rfl

end

/-- Settles O30: the message is `buildEcho`, by its layout, its length, its checksum and what the command does with it. -/
theorem exec_icmpEcho : Obligations.IcmpEcho := by
  intro dest ident sequence s
  exact ⟨buildEcho Config.chip ident sequence, _, buildEcho_layout .., rfl, length_buildEcho .., Config.chip.icmpPayload_letters,
    checksum_buildEcho .., exec_icmpEcho_eq_ipSend .., _, rfl⟩

end Sys2Proof.Machine

/-! PROOFS. The fields no layer reads (R173, R191, R212, R242, R251): octets that agree on what a dispatch reads select the same arm with
the same operands. -/

namespace Sys2Proof.Machine

/-! ### Reads behind an offset -/

theorem octetAt_drop (b : Octets) (k i : Nat) : octetAt (b.drop k) i = octetAt b (k + i) := by
  simp only [octetAt, List.getD_eq_getElem?_getD, List.getElem?_drop]

theorem be16_drop (b : Octets) (k i : Nat) : be16 (b.drop k) i = be16 b (k + i) := by
  simp only [be16, octetAt_drop, Nat.add_assoc]

/-! ### What the dispatches of Ethernet and IPv4 read -/

section

variable {α : Type} {malformed : α}

/-- Of the first twelve octets, the two MAC addresses, a frame's dispatch reads nothing (R173). -/
theorem caseFrame_congr {f f' : Octets} (hlen : f.length = f'.length) (hdrop : f.drop 12 = f'.drop 12)
    (ipv4 ipv4Swapped arp arpSwapped : Octets → α) (unknown : Word16 → α) :
    caseFrame f malformed ipv4 ipv4Swapped arp arpSwapped unknown = caseFrame f' malformed ipv4 ipv4Swapped arp arpSwapped unknown := by
  have htype : be16 f 12 = be16 f' 12 := by rw [← be16_drop f 12 0, hdrop, be16_drop]
  have hpayload : f.drop 14 = f'.drop 14 := by rw [← List.drop_drop (i := 2) (j := 12), hdrop, List.drop_drop]
  simp only [caseFrame, hlen, htype, hpayload]

/-- Of a header a packet's dispatch reads `IHL`, protocol and source alone (R212). -/
theorem caseIp_congr {b b' : Octets} (hlen : b.length = b'.length) (hihl : ipHeaderLength b = ipHeaderLength b')
    (hproto : octetAt b 9 = octetAt b' 9) (hsrc : be32 b 12 = be32 b' 12)
    (hpayload : b.drop (ipHeaderLength b) = b'.drop (ipHeaderLength b)) (icmp tcp udp : Word32 → Octets → α) (unknown : Octet → α) :
    caseIp b malformed icmp tcp udp unknown = caseIp b' malformed icmp tcp udp unknown := by
  rw [hihl] at hpayload
  simp only [caseIp, hlen, hihl, hproto, hsrc, hpayload]

end

/-! ### The obligation -/

/-- Settles O27: each layer's dispatch, rewritten field by field; UDP hands the source on to no arm. -/
theorem ignoredHeaderFields : Obligations.IgnoredHeaderFields := by
  intro s
  refine ⟨?frame, ?arp, ?ip, ?icmp, ?udp⟩
  case frame =>
    intro f f' now hlen hdrop
    rw [step_deliver_rx, step_deliver_rx, ethRx, ethRx, caseFrame_congr hlen hdrop]
  case arp =>
    intro p p' hp hp' hop hsha hspa htpa
    rw [exec_ethRxArp, exec_ethRxArp, if_neg (Nat.not_lt.mpr hp), if_neg (Nat.not_lt.mpr hp'), hop, hsha, hspa, htpa]
  case ip =>
    intro b b' now hlen hihl hproto hsrc hpayload
    rw [exec_ethRxIpv4, exec_ethRxIpv4, caseIp_congr hlen (congrArg (· * 4) hihl) hproto hsrc hpayload]
  case icmp =>
    intro src b b' hlen htype hseq
    rw [exec_ipRxIcmp, exec_ipRxIcmp, hlen, htype, hseq]
  case udp =>
    intro src src' b b' hlen hport hpayload
    rw [exec_ipRxUdp, exec_ipRxUdp, hlen, hport, hpayload]

end Sys2Proof.Machine

/-! PROOFS. The fields of a segment that TCP.RX does not read (R293, R311): segments that agree on the rest run alike. -/

namespace Sys2Proof.Machine

/-- Two segments agree on everything TCP.RX reads: ports, sequence number, data, and the three flags (R293). -/
structure TcpSeg.ReadAlike (seg seg' : TcpSeg) : Prop where
  srcPort : seg.srcPort = seg'.srcPort
  dstPort : seg.dstPort = seg'.dstPort
  seq : seg.seq = seg'.seq
  data : seg.data = seg'.data
  syn : hasSyn seg.flags = hasSyn seg'.flags
  ack : hasAck seg.flags = hasAck seg'.flags
  fin : hasFin seg.flags = hasFin seg'.flags

/-- The bits FIN, SYN and ACK are those of the mask 0x13 (R104). -/
theorem hasSyn_and_readFlags (f : Octet) : hasSyn (f &&& 0x13#8) = hasSyn f := by simp [hasSyn]
theorem hasAck_and_readFlags (f : Octet) : hasAck (f &&& 0x13#8) = hasAck f := by simp [hasAck]
theorem hasFin_and_readFlags (f : Octet) : hasFin (f &&& 0x13#8) = hasFin f := by simp [hasFin]

section

variable {cfg : Config} {src : Word32} {seg seg' : TcpSeg} {s : State} (h : TcpSeg.ReadAlike seg seg')

include h

/-- The lookup reads the two ports (R290). -/
theorem TcpSeg.ReadAlike.lookupSegment_eq : s.lookupSegment src seg = s.lookupSegment src seg' := by
  simp only [State.lookupSegment, h.srcPort, h.dstPort]

/-- The selection with no record found reads SYN (R297). -/
theorem TcpSeg.ReadAlike.caseNoConn_eq {α : Type} (syn other : α) : caseNoConn seg syn other = caseNoConn seg' syn other := by
  simp only [caseNoConn, h.syn]

/-- The selection by the state found reads the three flags and whether there is data (R107). -/
theorem TcpSeg.ReadAlike.caseState_eq {α : Type} (st : TcpState) (a b c d e f g i j k : α) :
    caseState st seg a b c d e f g i j k = caseState st seg' a b c d e f g i j k := by
  cases st <;> simp only [caseState, h.data, h.syn, h.ack, h.fin]

/-- The arm of a SYN for no record reads the ports and the sequence number (R297, R301). -/
theorem TcpSeg.ReadAlike.noConnSyn_eq (now : Nat) : noConnSyn cfg src seg now s = noConnSyn cfg src seg' now s := by
  simp only [noConnSyn, armListen, h.srcPort, h.dstPort, h.seq]

/-- The arms on a record read the sequence number, the data and FIN (R301 to R310). -/
theorem TcpSeg.ReadAlike.stateArm_eq (c : Conn) : stateArm cfg seg c s = stateArm cfg seg' c s := by
  simp only [stateArm, h.caseState_eq, armListen, armSynSent, armEstablishedData, armEstablishedFin, armFinWait2, dataStored,
    h.seq, h.data, h.fin]

end

/-- Settles O47: the lookup finds the same, then the arm it selects, with no record or on the record found. -/
theorem ignoredSegmentFields : Obligations.IgnoredSegmentFields := by
  intro src seg seg' now s hsrc hdst hseq hdata hflags
  have h : TcpSeg.ReadAlike seg seg' :=
    { srcPort := hsrc, dstPort := hdst, seq := hseq, data := hdata
      syn := by rw [← hasSyn_and_readFlags, hflags, hasSyn_and_readFlags]
      ack := by rw [← hasAck_and_readFlags, hflags, hasAck_and_readFlags]
      fin := by rw [← hasFin_and_readFlags, hflags, hasFin_and_readFlags] }
  cases hf : s.lookupSegment src seg with
  | none =>
    have hf' : s.lookupSegment src seg' = none := h.lookupSegment_eq.symm.trans hf
    rw [hf', Option.map_none, exec_instrOfSegment_none hf, exec_instrOfSegment_none hf', h.noConnSyn_eq, h.caseNoConn_eq]
  | some c =>
    have hf' : s.lookupSegment src seg' = some c := h.lookupSegment_eq.symm.trans hf
    rw [hf', Option.map_some, exec_instrOfSegment_some hf, exec_instrOfSegment_some hf', h.stateArm_eq]

end Sys2Proof.Machine

/-! PROOFS. The arms an ACK alone selects (R303, R306, R308). -/

namespace Sys2Proof.Machine

/-- In the state of an arm, the arm's condition alone selects it. -/
theorem instrOfSegment_eq_iff_of_state {st st' : TcpState} {src : Word32} {seg : TcpSeg} {now : Nat} {i : Instr} (hst : st = st')
    (he : encode i = .tcpStateFlags (some st') src (encodeSegment seg) 0) :
    instrOfSegment (some st) src seg now = i ↔ i.wellFormed = true :=
  (instrOfSegment_eq_iff he).trans (and_iff_right hst)

/-- A record removed at the end of an event that has done nothing else (R308, R309). -/
theorem removeConn_endRx (c : Conn) (s : State) :
    (s.removeConn c).endRx = { s with
      connTable := s.connTable.filter fun d => decide (d.handle ≠ c.handle)
      results := s.results ++ [.rx none] } := by
  simp only [State.removeConn, State.endRx, State.finish, decide_not]

/-- Settles O43: in each state the arm is selected by ACK; it writes the record back with the new state, or removes it. -/
theorem ackArms : Obligations.AckArms := by
  intro src seg now s c hf
  refine ⟨fun hst => ⟨?_, ?_⟩, fun hst => ⟨?_, ?_⟩, fun hst => ⟨?_, ?_⟩⟩
  · exact (instrOfSegment_eq_iff_of_state hst rfl).trans (hasAck_iff _)
  · exact (onConn_of_found hf hst _).trans (congrArg Host.Outcome.next (setConn_endRx_of_frame rfl rfl rfl))
  · exact (instrOfSegment_eq_iff_of_state hst rfl).trans (hasAck_iff _)
  · exact (onConn_of_found hf hst _).trans (congrArg Host.Outcome.next (setConn_endRx_of_frame rfl rfl rfl))
  · exact (instrOfSegment_eq_iff_of_state hst rfl).trans (hasAck_iff _)
  · exact (onConn_of_found hf hst _).trans (congrArg Host.Outcome.next (removeConn_endRx c s))

end Sys2Proof.Machine

/-! PROOFS. The life of a record (R28, R296, R352): what an instruction can do to the connection table, said once for every instruction,
and from it what removes a record, what makes one ESTABLISHED, and what creates one. -/

namespace Sys2Proof.Machine

/-! ### The reasons for a change of the table -/

/-- Why `i` may remove the record `c` (R348, R308, R309). -/
def RemovedBy (s : State) (i : Instr) (c : Conn) : Prop :=
  (i = .tcpClose c.handle ∧ c.state ≠ .established)
    ∨ ∃ src seg, s.lookupSegment src seg = some c ∧
      ((c.state = .lastAck ∧ runsArm s i (.tcpRxLastAckAck src seg))
        ∨ (c.state = .timeWait ∧ runsArm s i (.tcpRxTimeWaitAny src seg)))

/-- Why the record `c` may be ESTABLISHED after `i`: it was, or its handshake ends (R302, R303). -/
def EstablishedBy (s : State) (i : Instr) (c : Conn) : Prop :=
  c.state = .established
    ∨ ∃ src seg, s.lookupSegment src seg = some c ∧
      ((c.state = .synReceived ∧ runsArm s i (.tcpRxSynReceivedAck src seg))
        ∨ (c.state = .synSent ∧ runsArm s i (.tcpRxSynSentSynack src seg)))

/-- Why `i` may create a record, and the state it leaves the record in (R297, R342, R350). -/
def CreatedBy (s : State) (i : Instr) (st : TcpState) : Prop :=
  (st = .listen ∧ ∃ port, i = .tcpListen port) ∨ (st = .established ∧ ∃ ip port, i = .tcpConnect ip port)
    ∨ (st = .synReceived ∧ ∃ src seg now, s.lookupSegment src seg = none ∧ runsArm s i (.tcpRxNoconnSyn src seg now))

/-- What `i` can do to the connection table of `s`, `t` the state after: leave it, put a record back under its handle, remove a record,
or add one under `next_handle`, which is then used up. -/
inductive TableChange (s : State) (i : Instr) (t : State) : Prop
  | kept (htable : t.connTable = s.connTable) (hnext : t.nextHandle = s.nextHandle)
  | replaced {c d : Conn} (hc : c ∈ s.connTable) (hhandle : d.handle = c.handle)
    (hest : d.state = .established → EstablishedBy s i c)
    (htable : t.connTable = (s.setConn d).connTable) (hnext : t.nextHandle = s.nextHandle)
  | removed {c : Conn} (hc : c ∈ s.connTable) (hby : RemovedBy s i c) (htable : t.connTable = (s.removeConn c).connTable)
    (hnext : t.nextHandle = s.nextHandle)
  | created (hold : ∀ c ∈ s.connTable, ∃ d ∈ t.connTable, d.handle = c.handle)
    (hmem : ∀ d ∈ t.connTable, d ∈ s.connTable ∨ (d.handle = s.nextHandle ∧ CreatedBy s i d.state))
    (hnext : t.nextHandle = s.nextHandle + 1)

/-- Sends, log records and results leave the table and `next_handle`. -/
theorem WritesOnly.connTable_eq {s t : State} (h : WritesOnly [] s t) : t.connTable = s.connTable :=
  (h.same_or_mem .connTable).resolve_right List.not_mem_nil

theorem WritesOnly.nextHandle_eq {s t : State} (h : WritesOnly [] s t) : t.nextHandle = s.nextHandle :=
  (h.same_or_mem .nextHandle).resolve_right List.not_mem_nil

/-! ### What follows of each record -/

namespace TableChange

section

variable {s t : State} {i : Instr} (h : TableChange s i t)

include h

/-- `next_handle` never goes back (R28). -/
theorem nextHandle_le : s.nextHandle ≤ t.nextHandle := by
  cases h with
  | kept _ hnext | replaced _ _ _ _ hnext | removed _ _ _ hnext => exact hnext.ge
  | created _ _ hnext => exact hnext ▸ Nat.le_succ _

/-- A handle in use stays in use, except that of a record removed. -/
theorem handle_kept_or_removed {c : Conn} (hc : c ∈ s.connTable) :
    (∃ d ∈ t.connTable, d.handle = c.handle) ∨ ∃ e ∈ s.connTable, e.handle = c.handle ∧ RemovedBy s i e := by
  cases h with
  | kept htable => exact .inl ⟨c, htable ▸ hc, rfl⟩
  | replaced _ _ _ htable =>
    have hmem : c.handle ∈ t.connTable.map (·.handle) := by
      rw [htable, setConn_handles]
      exact List.mem_map_of_mem hc
    exact .inl (List.mem_map.mp hmem)
  | @removed e hmem hby htable =>
    by_cases he : c.handle = e.handle
    · exact .inr ⟨e, hmem, he.symm, hby⟩
    · exact .inl ⟨c, htable ▸ mem_removeConn.mpr ⟨hc, he⟩, rfl⟩
  | created hold => exact .inl (hold c hc)

/-- Every record after is one from before under its handle, or the one created. -/
theorem origin {d : Conn} (hd : d ∈ t.connTable) :
    (∃ c ∈ s.connTable, c.handle = d.handle ∧ (d.state = .established → EstablishedBy s i c))
      ∨ (d.handle = s.nextHandle ∧ t.nextHandle = s.nextHandle + 1 ∧ CreatedBy s i d.state) := by
  have unchanged (hs : d ∈ s.connTable) :
      ∃ c ∈ s.connTable, c.handle = d.handle ∧ (d.state = .established → EstablishedBy s i c) := ⟨d, hs, rfl, .inl⟩
  cases h with
  | kept htable => exact .inl (unchanged (htable ▸ hd))
  | replaced hc hhandle hest htable =>
    rcases mem_setConn (htable ▸ hd) with ⟨rfl, -⟩ | ⟨hs, -⟩
    · exact .inl ⟨_, hc, hhandle.symm, hest⟩
    · exact .inl (unchanged hs)
  | removed _ _ htable => exact .inl (unchanged (mem_removeConn.mp (htable ▸ hd)).1)
  | created _ hmem hnext =>
    rcases hmem d hd with hs | ⟨hhandle, hby⟩
    · exact .inl (unchanged hs)
    · exact .inr ⟨hhandle, hnext, hby⟩

end

/-! ### What the shared operations do to the table -/

section

variable {cfg : Config} {s t u v : State} {i : Instr} {c d : Conn}

/-- An operation that writes neither the table nor `next_handle` (R39). -/
theorem of_writesOnly {w : List Register} (hw : WritesOnly w s t) (hc : .connTable ∉ w) (hn : .nextHandle ∉ w) :
    TableChange s i t :=
  .kept ((hw.same_or_mem .connTable).resolve_right hc) ((hw.same_or_mem .nextHandle).resolve_right hn)

/-- Sends, log records and results leave the table. -/
theorem of_quiet (hw : WritesOnly [] s t) : TableChange s i t := of_writesOnly hw List.not_mem_nil List.not_mem_nil

/-- What is sent or recorded after a change of the table adds nothing to it. -/
theorem quiet (h : TableChange s i t) (hw : WritesOnly [] t u) : TableChange s i u := by
  have htable := hw.connTable_eq
  have hnext := hw.nextHandle_eq
  cases h with
  | kept ht hn => exact .kept (htable.trans ht) (hnext.trans hn)
  | replaced hc hhandle hest ht hn => exact .replaced hc hhandle hest (htable.trans ht) (hnext.trans hn)
  | removed hc hby ht hn => exact .removed hc hby (htable.trans ht) (hnext.trans hn)
  | created hold hmem hn => exact .created (htable ▸ hold) (htable ▸ hmem) (hnext.trans hn)

/-- How an operation that keeps its record ends: segments sent, the record put back, the result recorded. -/
theorem setConn_finish {r : Result} (hw : WritesOnly [] s u) (hc : c ∈ s.connTable) (hhandle : d.handle = c.handle)
    (hest : d.state = .established → EstablishedBy s i c) : TableChange s i ((u.setConn d).finish r) :=
  .replaced hc hhandle hest (by simp only [State.finish_connTable, State.setConn_connTable, hw.connTable_eq]) hw.nextHandle_eq

/-- How an operation that removes a record ends: nothing is sent, the result is recorded. -/
theorem removeConn_finish {r : Result} (hc : c ∈ s.connTable) (hby : RemovedBy s i c) :
    TableChange s i ((s.removeConn c).finish r) := .removed hc hby rfl rfl

/-- What `CreateConn` adds to the table, called with the table and `next_handle` of `s` (R295). -/
theorem table_of_createConn {lip rip : Word32} {lp rp : Word16} {st : TcpState}
    (h : createConn cfg lip rip lp rp st u = some (c, v)) (htable : u.connTable = s.connTable) (hnext : u.nextHandle = s.nextHandle) :
    c.handle = s.nextHandle ∧ c.state = st ∧ v.connTable = s.connTable ++ [c] ∧ v.nextHandle = s.nextHandle + 1 := by
  obtain ⟨-, -, rfl, rfl⟩ := createConn_some h
  exact ⟨hnext, rfl, by rw [htable], by rw [hnext]⟩

/-- A record created that stays as it is, and the result recorded (R342). -/
theorem createConn_finish {r : Result} {lip rip : Word32} {lp rp : Word16} {st : TcpState}
    (h : createConn cfg lip rip lp rp st s = some (c, t)) (hby : CreatedBy s i st) : TableChange s i (t.finish r) := by
  obtain ⟨hhandle, hstate, htable, hnext⟩ := table_of_createConn h rfl rfl
  refine .created (fun e he => ⟨e, ?_, rfl⟩) (fun e he => ?_) hnext
  · exact htable ▸ List.mem_append_left _ he
  · rcases List.mem_append.mp (htable ▸ he) with he | he
    · exact .inl he
    · obtain rfl := List.mem_singleton.mp he
      exact .inr ⟨hhandle, hstate ▸ hby⟩

/-- A record created, segments sent for it, the record put back and the result recorded (R297, R350). -/
theorem createConn_setConn_finish {r : Result} {lip rip : Word32} {lp rp : Word16} {st : TcpState}
    (h : createConn cfg lip rip lp rp st u = some (c, v)) (htable : u.connTable = s.connTable) (hnext : u.nextHandle = s.nextHandle)
    (hw : WritesOnly [] v t) (hhandle : d.handle = c.handle) (hby : CreatedBy s i d.state) : TableChange s i ((t.setConn d).finish r) := by
  obtain ⟨hc, -, hv, hn⟩ := table_of_createConn h htable hnext
  have ht : t.connTable = s.connTable ++ [c] := hw.connTable_eq.trans hv
  have htn : t.nextHandle = s.nextHandle + 1 := hw.nextHandle_eq.trans hn
  refine .created (fun e he => ?_) (fun e he => ?_) htn
  · have hmem : e.handle ∈ (t.setConn d).connTable.map (·.handle) := by
      rw [setConn_handles, ht]
      exact List.mem_map_of_mem (List.mem_append_left _ he)
    exact List.mem_map.mp hmem
  · rcases mem_setConn he with ⟨rfl, -⟩ | ⟨he, hne⟩
    · exact .inr ⟨hhandle.trans hc, hby⟩
    · refine .inl ((List.mem_append.mp (ht ▸ he)).resolve_right fun hlast => hne ?_)
      rw [List.mem_singleton.mp hlast, hhandle]

end

end TableChange

/-! ### The arms of TCP's receive table -/

/-- As `onNext_onConn`, with the state that the arm's key names (R107). -/
theorem onNext_onConn_of_state {P : State → Prop} {src : Word32} {seg : TcpSeg} {st : TcpState} {s : State} {arm : Conn → State}
    (h : ∀ c, s.lookupSegment src seg = some c → c.state = st → P (arm c)) : OnNext P (onConn src seg st s arm) := by
  unfold onConn
  split
  · exact onNext_refused P _
  · split
    · exact onNext_next (h _ ‹_› ‹_›)
    · exact onNext_refused P _

/-- As `onNext_onNoConn`, with the key of the NOCONN rows (R107). -/
theorem onNext_onNoConn_of_not_found {P : State → Prop} {src : Word32} {seg : TcpSeg} {s t : State}
    (h : s.lookupSegment src seg = none → P t) : OnNext P (onNoConn src seg s t) := by
  unfold onNoConn
  split
  · exact onNext_next (h ‹_›)
  · exact onNext_refused P _

section

variable {s : State} {i : Instr}

/-- The FIN arm, on a record `c'` that `c` has become, leaves the record in LAST_ACK (R305). -/
theorem armEstablishedFin_tableChange {cfg : Config} {seg : TcpSeg} {c c' : Conn} {u : State} (hw : WritesOnly [] s u)
    (hc : c ∈ s.connTable) (hhandle : c'.handle = c.handle) : TableChange s i (armEstablishedFin cfg seg c' u) :=
  .setConn_finish ((hw.trans (emitSeg_writesOnly ..)).trans (emitSeg_writesOnly ..)) hc hhandle nofun

@[simp] theorem dataStored_handle (cfg : Config) (seg : TcpSeg) (c : Conn) : (dataStored cfg seg c).handle = c.handle := by
  rw [dataStored, ringPush_handle]

/-- The data arm puts the record back in ESTABLISHED, where it was, or goes on to the FIN arm (R304, R305). -/
theorem armEstablishedData_tableChange {cfg : Config} {seg : TcpSeg} {c : Conn} (hc : c ∈ s.connTable)
    (hst : c.state = .established) : TableChange s i (armEstablishedData cfg seg c s) := by
  have hhandle : ((dataStored cfg seg c).countSegment flagAck []).handle = c.handle := dataStored_handle ..
  unfold armEstablishedData
  split
  · exact armEstablishedFin_tableChange (emitSeg_writesOnly ..) hc hhandle
  · exact .setConn_finish (emitSeg_writesOnly ..) hc hhandle fun _ => .inl hst

/-- A SYN for no record is dropped, or creates a record that the LISTEN arm leaves in SYN_RECEIVED (R297, R301). -/
theorem noConnSyn_tableChange {cfg : Config} {src : Word32} {seg : TcpSeg} {now : Nat} (hf : s.lookupSegment src seg = none)
    (hrun : runsArm s i (.tcpRxNoconnSyn src seg now)) : TableChange s i (noConnSyn cfg src seg now s) := by
  have hcounted : TableChange s i (countSyn cfg now s) := .kept (countSyn_connTable ..) (countSyn_nextHandle ..)
  unfold noConnSyn
  dsimp only
  split
  · exact hcounted.quiet ((emit_writesOnly ..).trans (raiseDrop_writesOnly ..))
  · split
    · exact hcounted.quiet (raiseDrop_writesOnly ..)
    · rename_i hcreate
      exact .createConn_setConn_finish hcreate (countSyn_connTable ..) (countSyn_nextHandle ..) (emitSeg_writesOnly ..) rfl
        (.inr (.inr ⟨rfl, src, seg, now, hf, hrun⟩))

/-- What an arm of TCP's receive table can do, for every instruction that runs it (R298, R352). -/
theorem exec_arm_tableChange {arm : Instr} (hrow : arm.row.format = .tcpStateFlags) (hrun : runsArm s i arm) :
    OnNext (TableChange s i) (exec arm s) := by
  have found {src : Word32} {seg : TcpSeg} {c : Conn} (hf : s.lookupSegment src seg = some c) : c ∈ s.connTable := (lookup_some hf).1
  cases arm with
  | tcpRxNoconnSyn src seg now => exact onNext_onNoConn_of_not_found fun hf => noConnSyn_tableChange hf hrun
  | tcpRxNoconnOther src seg => exact onNext_onNoConn (.of_quiet (raiseDrop_writesOnly ..))
  | tcpRxListenSyn src seg =>
    exact onNext_onConn fun c hf => .setConn_finish (emitSeg_writesOnly ..) (found hf) rfl nofun
  | tcpRxSynSentSynack src seg =>
    exact onNext_onConn_of_state fun c hf hst =>
      .setConn_finish (emitSeg_writesOnly ..) (found hf) rfl fun _ => .inr ⟨src, seg, hf, .inr ⟨hst, hrun⟩⟩
  | tcpRxSynReceivedAck src seg =>
    exact onNext_onConn_of_state fun c hf hst =>
      .setConn_finish (.refl ..) (found hf) rfl fun _ => .inr ⟨src, seg, hf, .inl ⟨hst, hrun⟩⟩
  | tcpRxEstablishedData src seg =>
    exact onNext_onConn_of_state fun c hf hst => armEstablishedData_tableChange (found hf) hst
  | tcpRxEstablishedFin src seg =>
    exact onNext_onConn fun c hf => armEstablishedFin_tableChange (.refl ..) (found hf) rfl
  | tcpRxFinWait1Ack src seg => exact onNext_onConn fun c hf => .setConn_finish (.refl ..) (found hf) rfl nofun
  | tcpRxFinWait2Fin src seg =>
    exact onNext_onConn fun c hf => .setConn_finish (emitSeg_writesOnly ..) (found hf) rfl nofun
  | tcpRxLastAckAck src seg =>
    exact onNext_onConn_of_state fun c hf hst =>
      .removeConn_finish (found hf) (.inr ⟨src, seg, hf, .inl ⟨hst, hrun⟩⟩)
  | tcpRxTimeWaitAny src seg =>
    exact onNext_onConn_of_state fun c hf hst =>
      .removeConn_finish (found hf) (.inr ⟨src, seg, hf, .inr ⟨hst, hrun⟩⟩)
  | tcpRxNoAction found src seg => exact onNext_onConn fun _ _ => .of_quiet (raiseDrop_writesOnly ..)
  | _ => cases hrow

/-! ### The dispatches that hand a segment to TCP.RX -/

/-- A dispatch to a nested arm: the drop, or the arm decoded (R16, R382). -/
theorem onNext_runNested {P : State → Prop} {r : Except DecodeError Instr} (hdrop : P (s.raiseDrop .malformedPacket))
    (harm : ∀ arm, r = .ok arm → OnNext P (exec arm s)) : OnNext P (s.runNested r) := by
  cases r with
  | error => exact onNext_next hdrop
  | ok arm => exact harm arm rfl

/-- A segment handed to TCP.RX by `i` runs the arm it decodes to (R290, R298). -/
theorem exec_ipRxTcp_tableChange {src : Word32} {b : Octets} {now : Nat}
    (hi : i = .ipRxTcp src b now
      ∨ ∃ p, decodeIp p now = .ok (.ipRxTcp src b now) ∧ (i = .ethRxIpv4 p now ∨ i = .ethRxIpv4Swapped p now)) :
    OnNext (TableChange s i) (exec (.ipRxTcp src b now) s) := by
  rw [exec_ipRxTcp_eq_runNested]
  refine onNext_runNested (.of_quiet (raiseDrop_writesOnly ..)) fun arm harm => ?_
  obtain ⟨-, hformat, -⟩ := decodeTcp_ok harm
  exact exec_arm_tableChange hformat (.inr ⟨src, b, now, harm, hi⟩)

/-- IP.RX hands TCP.RX the time of its own event (R210). -/
theorem now_of_decodeIp_tcp {p : Octets} {now now' : Nat} {src : Word32} {b : Octets}
    (h : decodeIp p now = .ok (.ipRxTcp src b now')) : now' = now := by
  unfold decodeIp caseIp at h
  split_ifs at h <;> cases h
  rfl

/-- A packet handed to IP.RX by `i`: TCP is the one protocol whose arm changes the table (R210). -/
theorem ipRx_tableChange {p : Octets} {now : Nat} (hi : i = .ethRxIpv4 p now ∨ i = .ethRxIpv4Swapped p now) :
    OnNext (TableChange s i) (.next (ipRx Config.chip p now s)) := by
  rw [next_ipRx_eq_runNested]
  refine onNext_runNested (.of_quiet (raiseDrop_writesOnly ..)) fun arm harm => ?_
  obtain ⟨-, hformat, -⟩ := decodeIp_ok harm
  cases arm with
  | ipRxTcp src b now' =>
    obtain rfl := now_of_decodeIp_tcp harm
    exact exec_ipRxTcp_tableChange (.inr ⟨p, harm, hi⟩)
  | ipRxIcmp | ipRxUdp | ipRxUnknown =>
    exact fun t ht => .of_writesOnly (exec_writesOnly _ s t ht) (by simp [writtenBy]) (by simp [writtenBy])
  | _ => cases hformat

end

/-! ### The commands -/

section

variable {cfg : Config} {s : State}

theorem tcpListen_tableChange (port : Word16) : TableChange s (.tcpListen port) (tcpListen cfg port s) := by
  unfold tcpListen
  split
  · exact .of_quiet (ret_writesOnly ..)
  · rename_i hcreate
    exact .createConn_finish hcreate (.inl ⟨rfl, port, rfl⟩)

theorem tcpSend_tableChange (h : Int) (data : Octets) :
    OnNext (TableChange s (.tcpSend h data)) (tcpSend cfg h data s) := by
  unfold tcpSend
  split
  · exact onNext_next (.of_quiet (ret_writesOnly ..))
  · rename_i c hfound
    obtain ⟨hc, -, hest⟩ := establishedByHandle_some hfound
    refine iteInduction (fun _ => onNext_next (.of_quiet (ret_writesOnly ..))) fun _ => onNext_ite_refused fun _ => onNext_next ?_
    exact .setConn_finish (emitSeg_writesOnly ..) hc rfl fun _ => .inl hest

theorem tcpRecv_tableChange (h : Int) (maxlen : Nat) : TableChange s (.tcpRecv h maxlen) (tcpRecv cfg h maxlen s) := by
  unfold tcpRecv
  split
  · exact .of_quiet (ret_writesOnly ..)
  · rename_i c hfound
    obtain ⟨hc, -, hest⟩ := establishedByHandle_some hfound
    exact .setConn_finish (.refl ..) hc rfl fun _ => .inl hest

theorem tcpClose_tableChange (h : Int) : TableChange s (.tcpClose h) (tcpClose cfg h s) := by
  unfold tcpClose
  split
  · exact .of_quiet (ret_writesOnly ..)
  · rename_i c hfound
    obtain ⟨hc, hhandle⟩ := byHandle_some hfound
    split
    · exact .setConn_finish (emitSeg_writesOnly ..) hc rfl nofun
    · rename_i hest
      exact .removeConn_finish hc (.inl ⟨congrArg Instr.tcpClose hhandle.symm, hest⟩)

theorem tcpConnect_tableChange (ip : Word32) (port : Word16) : TableChange s (.tcpConnect ip port) (tcpConnect cfg ip port s) := by
  have hstepped : TableChange s (.tcpConnect ip port) s.stepEphemeral := .kept rfl rfl
  unfold tcpConnect
  split
  · exact hstepped.quiet (ret_writesOnly ..)
  · rename_i hcreate
    exact .createConn_setConn_finish hcreate rfl rfl (emitSeg_writesOnly ..) rfl (.inr (.inl ⟨rfl, ip, port, rfl⟩))

end

/-! ### Every instruction -/

/-- The changes of the table, instruction by instruction; the instructions not named write neither the table nor `next_handle` (R39). -/
theorem exec_tableChange (i : Instr) (s : State) : OnNext (TableChange s i) (exec i s) := by
  cases i with
  | ethRxIpv4 p now => exact ipRx_tableChange (.inl rfl)
  | ethRxIpv4Swapped p now => exact ipRx_tableChange (.inr rfl)
  | ipRxTcp src b now => exact exec_ipRxTcp_tableChange (.inl rfl)
  | tcpRxNoconnSyn | tcpRxNoconnOther | tcpRxListenSyn | tcpRxSynSentSynack | tcpRxSynReceivedAck | tcpRxEstablishedData
  | tcpRxEstablishedFin | tcpRxFinWait1Ack | tcpRxFinWait2Fin | tcpRxLastAckAck | tcpRxTimeWaitAny | tcpRxNoAction =>
    exact exec_arm_tableChange rfl (.inl rfl)
  | tcpListen port => exact onNext_next (tcpListen_tableChange port)
  | tcpSend h data => exact tcpSend_tableChange h data
  | tcpRecv h maxlen => exact onNext_next (tcpRecv_tableChange h maxlen)
  | tcpClose h => exact onNext_next (tcpClose_tableChange h)
  | tcpConnect ip port => exact onNext_next (tcpConnect_tableChange ip port)
  | _ => exact fun t h => .of_writesOnly (exec_writesOnly _ s t h) (by simp [writtenBy]) (by simp [writtenBy])

/-- Settles O59: where the handle of each record after comes from. -/
theorem handlesNeverReused : Obligations.HandlesNeverReused := by
  intro i s t h
  have hchange : TableChange s i t := exec_tableChange i s t h
  refine ⟨hchange.nextHandle_le, fun d hd => ?_⟩
  rcases hchange.origin hd with ⟨c, hc, hhandle, -⟩ | ⟨hhandle, hnext, -⟩
  · exact .inl ⟨c, hc, hhandle⟩
  · exact .inr ⟨hhandle, hnext⟩

/-- Settles O60: what becomes of each record before, and where each record after comes from. -/
theorem recordLifecycle : Obligations.RecordLifecycle := by
  intro i s t hi h
  have hchange : TableChange s i t := exec_tableChange i s t h
  refine ⟨?gone, ?established, ?new⟩
  case gone =>
    intro c hc hgone
    rcases hchange.handle_kept_or_removed hc with ⟨d, hd, hhandle⟩ | ⟨e, he, hhandle, hby⟩
    · exact absurd hhandle (hgone d hd)
    · exact hi.eq_of_handle_eq he hc hhandle ▸ hby
  case established =>
    intro d hd hest
    rcases hchange.origin hd with ⟨c, hc, hhandle, hby⟩ | ⟨hhandle, -, hby⟩
    · exact .inr ⟨c, hc, hhandle, hby hest⟩
    · rcases hby with ⟨hst, -⟩ | ⟨-, hconnect⟩ | ⟨hst, -⟩
      · cases hst.symm.trans hest
      · exact .inl ⟨hhandle, hconnect⟩
      · cases hst.symm.trans hest
  case new =>
    intro d hd hnew
    rcases hchange.origin hd with ⟨c, hc, hhandle, -⟩ | ⟨hhandle, -, hby⟩
    · exact absurd hhandle (hnew c hc)
    · exact ⟨hhandle, hby⟩

end Sys2Proof.Machine

/-! PROOFS. The commands of the TCP engine (R342, R343, R346 to R348, R350): the two ways of finding a record, by handle and by
creation, and the record written back at the end of the command. -/

namespace Sys2Proof.Machine

/-! ### The end of a command -/

section

variable {s t : State} {c c' : Conn} {v : RetVal}

/-- A record written back under its handle, at the end of a command that has sent segments and nothing else: table and result. -/
theorem setConn_ret_of_frame (htable : t.connTable = s.connTable) (hresults : t.results = s.results) (hhandle : c'.handle = c.handle) :
    (t.setConn c').ret v = { t with
      connTable := s.connTable.map fun d => if d.handle = c.handle then c' else d
      results := s.results ++ [.ret v] } := by
  rw [← htable, ← hresults, ← hhandle]; rfl

/-- A record just added at the end of the table and written back, at the end of a command that has sent a segment of it. -/
theorem emitSeg_setConn_ret_of_append {cfg : Config} {fl : Octet} {data : Octets} {l : List Conn} (htable : s.connTable = l ++ [c])
    (hhandle : c'.handle = c.handle) (hf : ∀ d ∈ l, d.handle < c.handle) :
    ((emitSeg cfg c fl data s).setConn c').ret v = { emitSeg cfg c fl data s with
      connTable := l ++ [c']
      results := s.results ++ [.ret v] } := by
  rw [setConn_append_fresh ((emitSeg_connTable ..).trans htable) hhandle hf, ← emitSeg_results cfg c fl data s]; rfl

/-- A record removed at the end of a command that has done nothing else (R348). -/
theorem removeConn_ret (c : Conn) (s : State) :
    (s.removeConn c).ret v = { s with
      connTable := s.connTable.filter fun d => decide (d.handle ≠ c.handle)
      results := s.results ++ [.ret v] } := by
  simp only [State.removeConn, State.ret, State.finish, decide_not]

end

/-! ### Commands on the record a handle names -/

section

variable {cfg : Config} {h : Int} {s : State} {c : Conn}

theorem tcpAccept_of_found (hf : s.establishedByHandle h = some c) :
    tcpAccept h s = s.ret (.accepted c.handle c.remoteIp c.remotePort) := by
  simp only [tcpAccept, hf]

theorem tcpAccept_of_not_found (hf : s.establishedByHandle h = none) : tcpAccept h s = s.ret .failure := by
  simp only [tcpAccept, hf]

/-- Settles O49: the handle names an ESTABLISHED record, or it does not. -/
theorem exec_tcpAccept : Obligations.TcpAccept := fun _ _ =>
  ⟨fun _ hb hest => congrArg Host.Outcome.next (tcpAccept_of_found (establishedByHandle_eq hb hest)),
    fun hno => congrArg Host.Outcome.next (tcpAccept_of_not_found (establishedByHandle_none hno))⟩

theorem length_sendableData (c : Conn) (data : Octets) : (sendableData c data).length = min data.length c.usableWindow := by
  simp [sendableData]

/-- No octet given, or no room in the window: nothing is sent (R346). -/
theorem tcpSend_of_length_eq_zero (hf : s.establishedByHandle h = some c) {data : Octets}
    (hlen : (sendableData c data).length = 0) : tcpSend cfg h data s = .next (s.ret (.count 0)) := by
  simp only [tcpSend, hf, if_pos hlen]

/-- More than one segment holds (R222). -/
theorem tcpSend_of_too_long (hf : s.establishedByHandle h = some c) {data : Octets}
    (hlen : maxTcpData < (sendableData c data).length) : tcpSend cfg h data s = .refused .payloadTooLong := by
  simp only [tcpSend, hf, if_neg (Nat.ne_zero_of_lt hlen), if_pos hlen]

/-- One segment is sent and counted on the record (R346). -/
theorem tcpSend_of_length_pos (hf : s.establishedByHandle h = some c) {data : Octets} (hpos : 0 < (sendableData c data).length)
    (hle : (sendableData c data).length ≤ maxTcpData) :
    tcpSend cfg h data s = .next (((emitSeg cfg c flagsPshAck (sendableData c data) s).setConn
      { c.countSegment flagsPshAck (sendableData c data) with
        sendWindowStart := c.sendWindowStart + (sendableData c data).length }).ret (.count (sendableData c data).length)) := by
  simp only [tcpSend, hf, if_neg (Nat.ne_of_gt hpos), if_neg (Nat.not_lt.mpr hle)]

theorem tcpSend_of_not_found (hf : s.establishedByHandle h = none) (data : Octets) :
    tcpSend cfg h data s = .next (s.ret .failure) := by
  simp only [tcpSend, hf]

theorem tcpRecv_of_found (hf : s.establishedByHandle h = some c) (maxlen : Nat) :
    tcpRecv cfg h maxlen s =
      (s.setConn (ringPop cfg c maxlen).2).ret (.received (ringPop cfg c maxlen).1.length (ringPop cfg c maxlen).1) := by
  simp only [tcpRecv, hf]

theorem tcpRecv_of_not_found (hf : s.establishedByHandle h = none) (maxlen : Nat) : tcpRecv cfg h maxlen s = s.ret .failure := by
  simp only [tcpRecv, hf]

/-- `RingPop` in closed form: the oldest octets, and the record with its start moved on and its count lowered (R32). -/
theorem ringPop_eq (hstart : c.recvStart < cfg.rxbufCap) (maxlen : Nat) :
    ringPop cfg c maxlen =
      ((List.range (min maxlen c.recvCount)).map fun i => Memory.read c.recvBuf ((c.recvStart + i) % cfg.rxbufCap),
        { c with
          recvStart := (c.recvStart + min maxlen c.recvCount) % cfg.rxbufCap
          recvCount := c.recvCount - min maxlen c.recvCount }) := by
  rw [ringPop, ringRead_eq _ _ _ _ hstart, ringAdvance_eq _ _ _ hstart]

theorem tcpClose_of_established (hb : s.byHandle h = some c) (hest : c.state = .established) :
    tcpClose cfg h s =
      ((emitSeg cfg c flagsFinAck [] s).setConn { c.countSegment flagsFinAck [] with state := .finWait1 }).ret .nothing := by
  simp only [tcpClose, hb, if_pos hest]

theorem tcpClose_of_not_established (hb : s.byHandle h = some c) (hest : c.state ≠ .established) :
    tcpClose cfg h s = (s.removeConn c).ret .nothing := by
  simp only [tcpClose, hb, if_neg hest]

theorem tcpClose_of_not_found (hb : s.byHandle h = none) : tcpClose cfg h s = s.ret .nothing := by
  simp only [tcpClose, hb]

end

/-- Settles O50: the number of sendable octets decides; what is sent is counted on the record, which is written back. -/
theorem exec_tcpSend : Obligations.TcpSend := by
  refine fun h data s => ⟨fun c n hb hest hn => ?_, fun hno => tcpSend_of_not_found (establishedByHandle_none hno) data⟩
  have hf := establishedByHandle_eq hb hest
  have hlen : (sendableData c data).length = n := (length_sendableData c data).trans hn.symm
  have hdata : sendableData c data = data.take n := congrArg (List.take · data) hn.symm
  refine ⟨fun hpos hle => ?_, fun hzero => ?_, fun hlong => ?_⟩
  · refine (tcpSend_of_length_pos hf (hlen.symm ▸ hpos) (hlen.symm ▸ hle)).trans (congrArg Host.Outcome.next ?_)
    refine (setConn_ret_of_frame (emitSeg_connTable ..) (emitSeg_results ..) rfl).trans ?_
    rw [Conn.countSegment, hlen, hdata]; rfl
  · exact tcpSend_of_length_eq_zero hf (hlen.trans hzero)
  · exact tcpSend_of_too_long hf (hlen.symm ▸ hlong)

/-- Settles O51: the ring's closed form, and the popped record written back. -/
theorem exec_tcpRecv : Obligations.TcpRecv := by
  refine fun h maxlen s => ⟨?_, fun hno => congrArg Host.Outcome.next (tcpRecv_of_not_found (establishedByHandle_none hno) maxlen)⟩
  rintro c n hb hest hstart rfl
  refine congrArg Host.Outcome.next ((tcpRecv_of_found (establishedByHandle_eq hb hest) maxlen).trans ?_)
  rw [ringPop_eq hstart, List.length_map, List.length_range]
  exact setConn_ret_of_frame rfl rfl rfl

/-- Settles O52: the handle names an ESTABLISHED record, a record in another state, or nothing. -/
theorem exec_tcpClose : Obligations.TcpClose := by
  refine fun h s => ⟨fun c hb hest => congrArg Host.Outcome.next ?_, fun c hb hest => congrArg Host.Outcome.next ?_,
    fun hb => congrArg Host.Outcome.next (tcpClose_of_not_found hb)⟩
  · exact (tcpClose_of_established hb hest).trans (setConn_ret_of_frame (emitSeg_connTable ..) (emitSeg_results ..) rfl)
  · exact (tcpClose_of_not_established hb hest).trans (removeConn_ret ..)

/-! ### Commands that create a record -/

section

variable {cfg : Config} {s t : State} {c : Conn}

/-- The 4-tuple is taken or the table is full: no record is created (R295). -/
theorem createConn_of_taken_or_full {lip rip : Word32} {lp rp : Word16} {st : TcpState}
    (h : s.lookup lip rip lp rp ≠ none ∨ s.tableFull cfg = true) : createConn cfg lip rip lp rp st s = none := by
  rcases h with htaken | hfull
  · exact if_pos (Option.isSome_iff_ne_none.mpr htaken)
  · exact createConn_of_full hfull

theorem tcpListen_of_created {port : Word16} (hc : createConn cfg s.ownIp 0 port 0 .listen s = some (c, t)) :
    tcpListen cfg port s = t.ret (.handle c.handle) := by
  simp only [tcpListen, hc]

theorem tcpListen_of_not_created {port : Word16} (hc : createConn cfg s.ownIp 0 port 0 .listen s = none) :
    tcpListen cfg port s = s.ret .failure := by
  simp only [tcpListen, hc]

/-- The SYN of the record just created is sent, and the record stands last in the table (R350). -/
theorem tcpConnect_of_created {ip : Word32} {port : Word16} {l : List Conn}
    (hc : createConn cfg s.ownIp ip s.nextEphemeral port .synSent s.stepEphemeral = some (c, t)) (htable : t.connTable = l ++ [c])
    (hf : ∀ d ∈ l, d.handle < c.handle) :
    tcpConnect cfg ip port s = { emitSeg cfg c 0x02 [] t with
      connTable := l ++ [{ c with seqNumber := c.seqNumber + 1, state := .established }]
      results := t.results ++ [.ret (.handle c.handle)] } := by
  simp only [tcpConnect, hc]
  exact emitSeg_setConn_ret_of_append htable rfl hf

theorem tcpConnect_of_not_created {ip : Word32} {port : Word16}
    (hc : createConn cfg s.ownIp ip s.nextEphemeral port .synSent s.stepEphemeral = none) :
    tcpConnect cfg ip port s = s.stepEphemeral.ret .failure := by
  simp only [tcpConnect, hc]

/-- Sending reads none of the registers that TCP.CONNECT writes before it sends the SYN (R299, R350). -/
theorem emitSeg_comm_connectRegisters (fl : Octet) (d : Octets) (ephemeral : Word16) (handle : Nat) (table : List Conn)
    (draws : Nat) :
    emitSeg cfg c fl d { s with
      nextEphemeral := ephemeral, nextHandle := handle, connTable := table, isnDraws := draws } =
    { emitSeg cfg c fl d s with
      nextEphemeral := ephemeral, nextHandle := handle, connTable := table, isnDraws := draws } :=
  (emitSeg_comm cfg c fl d s ephemeral s.synCount s.synBucketStart handle table draws).trans
    (by simp only [emitSeg_synCount, emitSeg_synBucketStart])

end

/-- Settles O48: the record is created, or it is not. -/
theorem exec_tcpListen : Obligations.TcpListen := fun _ _ =>
  ⟨fun hfree hroom => congrArg Host.Outcome.next (tcpListen_of_created (createConn_of_room hfree hroom)),
    fun hfail => congrArg Host.Outcome.next (tcpListen_of_not_created (createConn_of_taken_or_full hfail))⟩

/-- Settles O53: the port is taken first; then the record is created, its SYN sent and counted, and the record written back, or no
record is created. -/
theorem exec_tcpConnect : Obligations.TcpConnect := by
  refine fun ip port s => ⟨?created, fun hfail => congrArg Host.Outcome.next ?failed⟩
  case created =>
    intro hfree hroom hfresh c hc
    have hcreate : createConn Config.chip s.ownIp ip s.nextEphemeral port .synSent s.stepEphemeral = some (c, { s with
        nextEphemeral := s.nextEphemeral + 1
        nextHandle := s.nextHandle + 1
        isnDraws := s.isnDraws + 1
        connTable := s.connTable ++ [c] }) := hc ▸ createConn_of_room (s := s.stepEphemeral) hfree hroom
    have hhandle : c.handle = s.nextHandle := congrArg Conn.handle hc
    refine congrArg Host.Outcome.next ((tcpConnect_of_created hcreate rfl (hhandle ▸ hfresh)).trans ?_)
    rw [emitSeg_comm_connectRegisters, hhandle]
  case failed =>
    exact tcpConnect_of_not_created (s := s) (createConn_of_taken_or_full hfail)

end Sys2Proof.Machine

/-! PROOFS. What becomes of a record (R30, R34, R351, R352): said once for every instruction, and from it the legal states of every
step and the fields that no instruction changes. -/

namespace Sys2Proof.Machine

/-! ### One record -/

/-- What an instruction can make of the record `c`: `d` differs from it in the listed fields alone, its send window has not reopened,
and its state is the old one or a legal one (R33, R34, R351, R352). -/
structure Conn.Evolves (c d : Conn) : Prop where
  fixed : d = { c with
    state := d.state, seqNumber := d.seqNumber, ackNumber := d.ackNumber, sendWindowStart := d.sendWindowStart
    recvBuf := d.recvBuf, recvStart := d.recvStart, recvEnd := d.recvEnd, recvCount := d.recvCount }
  window : c.sendWindowStart ≤ d.sendWindowStart
  state : d.state = c.state ∨ legalState d.state = true

namespace Conn.Evolves

theorem refl (c : Conn) : c.Evolves c := ⟨rfl, le_rfl, .inl rfl⟩

theorem trans {c d e : Conn} (h : c.Evolves d) (h' : d.Evolves e) : c.Evolves e where
  fixed := h'.fixed.trans (congrArg (fun x : Conn => { x with
    state := e.state, seqNumber := e.seqNumber, ackNumber := e.ackNumber, sendWindowStart := e.sendWindowStart
    recvBuf := e.recvBuf, recvStart := e.recvStart, recvEnd := e.recvEnd, recvCount := e.recvCount }) h.fixed)
  window := h.window.trans h'.window
  state := h'.state.elim (fun hsame => hsame ▸ h.state) .inr

theorem handle {c d : Conn} (h : c.Evolves d) : d.handle = c.handle := (congrArg Conn.handle h.fixed :)

/-- A segment acknowledged or counted on the record (R299, R301 to R307). -/
theorem renumber (c : Conn) (q a : Word32) : c.Evolves { c with seqNumber := q, ackNumber := a } := ⟨rfl, le_rfl, .inl rfl⟩

/-- The record moved on to a legal state (R298, R348). -/
theorem move (c : Conn) {st : TcpState} (hst : legalState st = true) (q a : Word32) :
    c.Evolves { c with state := st, seqNumber := q, ackNumber := a } := ⟨rfl, le_rfl, .inr hst⟩

/-- Data sent moves the start of the send window forward (R346). -/
theorem send (c : Conn) (q : Word32) (n : Nat) :
    c.Evolves { c with seqNumber := q, sendWindowStart := c.sendWindowStart + n } := ⟨rfl, Nat.le_add_right _ _, .inl rfl⟩

/-- Data received goes into the ring (R32). -/
theorem push (cfg : Config) (c : Conn) (data : Octets) : c.Evolves (ringPush cfg c data).2 := by
  rw [ringPush_frame]
  exact ⟨rfl, le_rfl, .inl rfl⟩

/-- Data read leaves the ring (R32). -/
theorem pop (cfg : Config) (c : Conn) (maxlen : Nat) : c.Evolves (ringPop cfg c maxlen).2 := ⟨rfl, le_rfl, .inl rfl⟩

/-- The data step stores and acknowledges (R304). -/
theorem dataStored (cfg : Config) (seg : TcpSeg) (c : Conn) : c.Evolves (dataStored cfg seg c) :=
  (push cfg c seg.data).trans (renumber _ _ _)

end Conn.Evolves

/-! ### The table -/

/-- Every record of `t` comes from a record of `s`, or was created with the next handle of `s` and is in a legal state. -/
structure RecordsEvolve (s t : State) : Prop where
  origin : ∀ d ∈ t.connTable, (∃ c ∈ s.connTable, c.Evolves d) ∨ (d.handle = s.nextHandle ∧ legalState d.state = true)

namespace RecordsEvolve

section

variable {cfg : Config} {s t u v : State} {c d : Conn} {r : Result} {lip rip : Word32} {lp rp : Word16} {st : TcpState}

theorem of_connTable_eq (h : t.connTable = s.connTable) : RecordsEvolve s t := ⟨fun d hd => .inl ⟨d, h ▸ hd, .refl d⟩⟩

/-- An operation that does not write the table (R39). -/
theorem of_writesOnly {w : List Register} (hw : WritesOnly w s t) (hc : .connTable ∉ w) : RecordsEvolve s t :=
  of_connTable_eq ((hw.same_or_mem .connTable).resolve_right hc)

theorem of_quiet (hw : WritesOnly [] s t) : RecordsEvolve s t := of_writesOnly hw List.not_mem_nil

/-- What an operation sends or records at its end leaves the table as it is. -/
theorem quiet (h : RecordsEvolve s t) (hw : WritesOnly [] t u) : RecordsEvolve s u := by
  refine ⟨fun d hd => h.origin d ?_⟩
  rwa [hw.connTable_eq] at hd

/-- How an operation that keeps its record ends: segments sent, the record put back, the result recorded. -/
theorem setConn_finish (hw : WritesOnly [] s u) (hc : c ∈ s.connTable) (he : c.Evolves d) :
    RecordsEvolve s ((u.setConn d).finish r) := by
  refine ⟨fun e hmem => ?_⟩
  rcases mem_setConn hmem with ⟨rfl, -⟩ | ⟨hmem, -⟩
  · exact .inl ⟨c, hc, he⟩
  · exact .inl ⟨e, hw.connTable_eq ▸ hmem, .refl e⟩

/-- How an operation that removes a record ends (R296). -/
theorem removeConn_finish (c : Conn) : RecordsEvolve s ((s.removeConn c).finish r) :=
  ⟨fun d hd => .inl ⟨d, (mem_removeConn.mp hd).1, .refl d⟩⟩

/-- A record created in a legal state that stays as it is (R295). -/
theorem of_createConn (h : createConn cfg lip rip lp rp st s = some (c, t)) (hst : legalState st = true) :
    RecordsEvolve s t := by
  obtain ⟨hhandle, hstate, htable, -⟩ := TableChange.table_of_createConn h rfl rfl
  refine ⟨fun d hd => ?_⟩
  rcases List.mem_append.mp (htable ▸ hd) with hd | hd
  · exact .inl ⟨d, hd, .refl d⟩
  · obtain rfl := List.mem_singleton.mp hd
    exact .inr ⟨hhandle, hstate ▸ hst⟩

/-- A record created, segments sent for it, the record put back in a legal state (R297, R350). -/
theorem createConn_setConn_finish (h : createConn cfg lip rip lp rp st u = some (c, v)) (htable : u.connTable = s.connTable)
    (hnext : u.nextHandle = s.nextHandle) (hw : WritesOnly [] v t) (hhandle : d.handle = c.handle)
    (hst : legalState d.state = true) : RecordsEvolve s ((t.setConn d).finish r) := by
  obtain ⟨hc, -, hv, -⟩ := TableChange.table_of_createConn h htable hnext
  have ht : t.connTable = s.connTable ++ [c] := hw.connTable_eq.trans hv
  refine ⟨fun e he => ?_⟩
  rcases mem_setConn he with ⟨rfl, -⟩ | ⟨he, hne⟩
  · exact .inr ⟨hhandle.trans hc, hst⟩
  · refine .inl ⟨e, (List.mem_append.mp (ht ▸ he)).resolve_right fun hlast => hne ?_, .refl e⟩
    rw [List.mem_singleton.mp hlast, hhandle]

/-- Where every record was in a legal state, every record still is (R352). -/
theorem legalStates (h : RecordsEvolve s t) (hs : s.LegalStates) : t.LegalStates := by
  intro d hd
  rcases h.origin d hd with ⟨c, hc, he⟩ | ⟨-, hlegal⟩
  · exact he.state.elim (fun hsame => hsame ▸ hs c hc) id
  · exact hlegal

/-- A record that keeps its handle is the old record evolved: handles name one record, and the next handle none (R35). -/
theorem evolves_of_handle_eq (h : RecordsEvolve s t) (hi : s.Inv cfg) (hc : c ∈ s.connTable) (hd : d ∈ t.connTable)
    (hhandle : d.handle = c.handle) : c.Evolves d := by
  rcases h.origin d hd with ⟨e, he, hed⟩ | ⟨hnew, -⟩
  · exact hi.eq_of_handle_eq he hc (hed.handle.symm.trans hhandle) ▸ hed
  · exact absurd (hhandle.symm.trans hnew) (Nat.ne_of_lt (hi.fresh c hc))

end

end RecordsEvolve

/-! ### The arms of TCP's receive table -/

section

variable {cfg : Config} {seg : TcpSeg} {s : State} {c : Conn} (hc : c ∈ s.connTable)

include hc

theorem armListen_recordsEvolve : RecordsEvolve s (armListen cfg seg c s) :=
  .setConn_finish (emitSeg_writesOnly ..) hc (.move c rfl _ _)

theorem armSynSent_recordsEvolve : RecordsEvolve s (armSynSent cfg seg c s) :=
  .setConn_finish (emitSeg_writesOnly ..) hc (.move c rfl _ _)

theorem armSynReceived_recordsEvolve : RecordsEvolve s (armSynReceived c s) := .setConn_finish (.refl ..) hc (.move c rfl _ _)

/-- The FIN step, on a record `c'` that `c` has become (R305). -/
theorem armEstablishedFin_recordsEvolve {c' : Conn} {u : State} (hw : WritesOnly [] s u) (he : c.Evolves c') :
    RecordsEvolve s (armEstablishedFin cfg seg c' u) :=
  .setConn_finish ((hw.trans (emitSeg_writesOnly ..)).trans (emitSeg_writesOnly ..)) hc (he.trans (.move c' rfl _ _))

/-- The data step, and the FIN step on the record it leaves (R304, R305). -/
theorem armEstablishedData_recordsEvolve : RecordsEvolve s (armEstablishedData cfg seg c s) := by
  have honce : c.Evolves ((dataStored cfg seg c).countSegment flagAck []) :=
    (Conn.Evolves.dataStored cfg seg c).trans (.renumber _ _ _)
  exact iteInduction (fun _ => armEstablishedFin_recordsEvolve hc (emitSeg_writesOnly ..) honce)
    fun _ => .setConn_finish (emitSeg_writesOnly ..) hc honce

theorem armFinWait1_recordsEvolve : RecordsEvolve s (armFinWait1 c s) := .setConn_finish (.refl ..) hc (.move c rfl _ _)

theorem armFinWait2_recordsEvolve : RecordsEvolve s (armFinWait2 cfg seg c s) :=
  .setConn_finish (emitSeg_writesOnly ..) hc (.move c rfl _ _)

theorem stateArm_recordsEvolve : RecordsEvolve s (stateArm cfg seg c s) :=
  caseState_of_arms (P := RecordsEvolve s) (armListen_recordsEvolve hc) (armSynSent_recordsEvolve hc)
    (armSynReceived_recordsEvolve hc) (armEstablishedData_recordsEvolve hc)
    (armEstablishedFin_recordsEvolve hc (.refl ..) (.refl c)) (armFinWait1_recordsEvolve hc) (armFinWait2_recordsEvolve hc)
    (.removeConn_finish c) (.removeConn_finish c) (.of_quiet (raiseDrop_writesOnly ..))

end

/-! ### The operations that write the table -/

section

variable {cfg : Config} {s : State}

theorem noConnSyn_recordsEvolve (src : Word32) (seg : TcpSeg) (now : Nat) : RecordsEvolve s (noConnSyn cfg src seg now s) := by
  have hcounted : RecordsEvolve s (countSyn cfg now s) := .of_connTable_eq (countSyn_connTable ..)
  unfold noConnSyn
  dsimp only
  split
  · exact hcounted.quiet ((emit_writesOnly ..).trans (raiseDrop_writesOnly ..))
  · split
    · exact hcounted.quiet (raiseDrop_writesOnly ..)
    · rename_i hcreate
      exact .createConn_setConn_finish hcreate (countSyn_connTable ..) (countSyn_nextHandle ..) (emitSeg_writesOnly ..) rfl rfl

theorem tcpRx_recordsEvolve (src : Word32) (b : Octets) (now : Nat) : RecordsEvolve s (tcpRx cfg src b now s) := by
  unfold tcpRx
  split
  · exact .of_quiet (raiseDrop_writesOnly ..)
  · split
    · exact caseNoConn_of_arms (noConnSyn_recordsEvolve ..) (.of_quiet (raiseDrop_writesOnly ..))
    · rename_i hfound
      exact stateArm_recordsEvolve (lookup_some hfound).1

theorem ipRx_recordsEvolve (b : Octets) (now : Nat) : RecordsEvolve s (ipRx cfg b now s) :=
  caseIp_of_arms (.of_quiet (raiseDrop_writesOnly ..)) (fun _ _ => .of_quiet (icmpRx_writesOnly ..))
    (fun src p => tcpRx_recordsEvolve src p now) (fun _ _ => .of_writesOnly (udpRx_writesOnly ..) (by simp))
    fun _ => .of_quiet (raiseDrop_writesOnly ..)

theorem tcpListen_recordsEvolve (port : Word16) : RecordsEvolve s (tcpListen cfg port s) := by
  unfold tcpListen
  split
  · exact .of_quiet (ret_writesOnly ..)
  · exact (RecordsEvolve.of_createConn ‹_› rfl).quiet (ret_writesOnly ..)

theorem tcpSend_recordsEvolve (h : Int) (data : Octets) : OnNext (RecordsEvolve s) (tcpSend cfg h data s) := by
  unfold tcpSend
  split
  · exact onNext_next (.of_quiet (ret_writesOnly ..))
  · rename_i c hfound
    refine iteInduction (fun _ => onNext_next (.of_quiet (ret_writesOnly ..))) fun _ => onNext_ite_refused fun _ => onNext_next ?_
    exact .setConn_finish (emitSeg_writesOnly ..) (establishedByHandle_some hfound).1 (.send c _ _)

theorem tcpRecv_recordsEvolve (h : Int) (maxlen : Nat) : RecordsEvolve s (tcpRecv cfg h maxlen s) := by
  unfold tcpRecv
  split
  · exact .of_quiet (ret_writesOnly ..)
  · rename_i c hfound
    exact .setConn_finish (.refl ..) (establishedByHandle_some hfound).1 (.pop cfg c maxlen)

theorem tcpClose_recordsEvolve (h : Int) : RecordsEvolve s (tcpClose cfg h s) := by
  unfold tcpClose
  split
  · exact .of_quiet (ret_writesOnly ..)
  · rename_i c hfound
    split
    · exact .setConn_finish (emitSeg_writesOnly ..) (byHandle_some hfound).1 (.move c rfl _ _)
    · exact .removeConn_finish c

theorem tcpConnect_recordsEvolve (ip : Word32) (port : Word16) : RecordsEvolve s (tcpConnect cfg ip port s) := by
  unfold tcpConnect
  split
  · exact .of_connTable_eq rfl
  · rename_i hcreate
    exact .createConn_setConn_finish hcreate rfl rfl (emitSeg_writesOnly ..) rfl rfl

end

/-! ### Every instruction -/

/-- An instruction that can write the table has its own lemma; the rest do not write it (R39). -/
theorem exec_recordsEvolve (i : Instr) (s : State) : OnNext (RecordsEvolve s) (exec i s) := by
  have found {src : Word32} {seg : TcpSeg} {c : Conn} (hf : s.lookupSegment src seg = some c) : c ∈ s.connTable := (lookup_some hf).1
  cases i with
  | ethRxIpv4 | ethRxIpv4Swapped => exact onNext_next (ipRx_recordsEvolve ..)
  | ipRxTcp => exact onNext_next (tcpRx_recordsEvolve ..)
  | tcpRxNoconnSyn => exact onNext_onNoConn (noConnSyn_recordsEvolve ..)
  | tcpRxListenSyn => exact onNext_onConn fun _ hf => armListen_recordsEvolve (found hf)
  | tcpRxSynSentSynack => exact onNext_onConn fun _ hf => armSynSent_recordsEvolve (found hf)
  | tcpRxSynReceivedAck => exact onNext_onConn fun _ hf => armSynReceived_recordsEvolve (found hf)
  | tcpRxEstablishedData => exact onNext_onConn fun _ hf => armEstablishedData_recordsEvolve (found hf)
  | tcpRxEstablishedFin => exact onNext_onConn fun c hf => armEstablishedFin_recordsEvolve (found hf) (.refl ..) (.refl c)
  | tcpRxFinWait1Ack => exact onNext_onConn fun _ hf => armFinWait1_recordsEvolve (found hf)
  | tcpRxFinWait2Fin => exact onNext_onConn fun _ hf => armFinWait2_recordsEvolve (found hf)
  | tcpRxLastAckAck | tcpRxTimeWaitAny => exact onNext_onConn fun c _ => .removeConn_finish c
  | tcpListen => exact onNext_next (tcpListen_recordsEvolve ..)
  | tcpSend => exact tcpSend_recordsEvolve _ _
  | tcpRecv => exact onNext_next (tcpRecv_recordsEvolve ..)
  | tcpClose => exact onNext_next (tcpClose_recordsEvolve ..)
  | tcpConnect => exact onNext_next (tcpConnect_recordsEvolve ..)
  | _ => exact fun t h => .of_writesOnly (exec_writesOnly _ s t h) (by simp [writtenBy])

/-- Settles O56: the three ways a step answers a next state; only the instruction's can touch a record. -/
theorem stepKeepsLegalStates : Obligations.StepKeepsLegalStates := by
  intro s t hs
  have hdropped : s.dropPending.LegalStates := hs
  exact onNext_step hs (fun i u hu => (exec_recordsEvolve i s.dropPending u hu).legalStates hdropped) hdropped t

/-- Settles O58: the record after is the record before evolved, read field by field. -/
theorem recordIdentityConstant : Obligations.RecordIdentityConstant := by
  intro i s t hi h c hc d hd hhandle
  obtain ⟨hfixed, hwindow, -⟩ := (exec_recordsEvolve i s t h).evolves_of_handle_eq hi hc hd hhandle
  have field {α : Type} (f : Conn → α) := congrArg f hfixed
  exact ⟨field Conn.localIp, field Conn.remoteIp, field Conn.localPort, field Conn.remotePort, field Conn.sendWindowEnd, hwindow,
    field Conn.recvWindowStart, field Conn.recvWindowEnd, field Conn.lastAckTime, field Conn.rto, field Conn.retransmitCount,
    field Conn.synTimestamp, field Conn.synCookieEnabled⟩

end Sys2Proof.Machine

/-! PROOFS. How an event ends (R17, R380, R384, R402): with one result, after effects that are only appended; a receive event with
`MalformedPacket` exactly where its octets are too short (R382), and never with `ChecksumMismatch` (R383). -/

namespace Sys2Proof.Machine

/-! ### On the way and at the end -/

/-- An operation on the way from `s` to `t`: no event is taken, no result recorded, and effects are only appended (R70, R76). -/
structure Continues (s t : State) : Prop where
  pending : t.pending = s.pending
  results : t.results = s.results
  effects : s.effects <+: t.effects

/-- The event whose operation began in `s` has ended in `t` with this result (R17). -/
structure EndsWith (r : Result) (s t : State) : Prop where
  pending : t.pending = s.pending
  results : t.results = s.results ++ [r]
  effects : s.effects <+: t.effects

/-- A receive event has ended with a reason or `None`: never `ChecksumMismatch`, and `MalformedPacket` exactly where something was too
short (R380, R382, R383). -/
def ReceiveEnds (short : Prop) (s t : State) : Prop :=
  ∃ reason, EndsWith (.rx reason) s t ∧ reason ≠ some .checksumMismatch ∧ (reason = some .malformedPacket ↔ short)

/-- A command has ended with a returned value (R384). -/
def CommandEnds (s t : State) : Prop := ∃ v, EndsWith (.ret v) s t

/-- A drop that is neither of the two reasons the taxonomy singles out (R382, R383). -/
def OrdinaryDrop (d : DropReason) : Prop := d ≠ .checksumMismatch ∧ d ≠ .malformedPacket

namespace Continues

section

variable {s t u : State} {short : Prop} (h : Continues s t)

theorem refl (s : State) : Continues s s := ⟨rfl, rfl, List.prefix_rfl⟩

include h

theorem trans (h' : Continues t u) : Continues s u :=
  ⟨h'.pending.trans h.pending, h'.results.trans h.results, h.effects.trans h'.effects⟩

theorem finish (r : Result) : EndsWith r s (t.finish r) := ⟨h.pending, by simp [h.results], h.effects⟩

theorem ret (v : RetVal) : CommandEnds s (t.ret v) := ⟨v, h.finish _⟩

theorem endRx (hlong : ¬ short) : ReceiveEnds short s t.endRx := ⟨none, h.finish _, nofun, iff_of_false nofun hlong⟩

theorem raiseDrop {d : DropReason} (hd : OrdinaryDrop d) (hlong : ¬ short) : ReceiveEnds short s (t.raiseDrop d) :=
  ⟨some d, h.finish _, by simpa using hd.1, iff_of_false (by simpa using hd.2) hlong⟩

end

end Continues

theorem raiseDrop_malformed_receiveEnds {short : Prop} (s : State) (h : short) :
    ReceiveEnds short s (s.raiseDrop .malformedPacket) :=
  ⟨some .malformedPacket, (Continues.refl s).finish _, nofun, iff_of_true rfl h⟩

theorem ReceiveEnds.congr {p q : Prop} {s t : State} (h : ReceiveEnds p s t) (hpq : p ↔ q) : ReceiveEnds q s t := by
  obtain ⟨reason, hend, hck, hmal⟩ := h
  exact ⟨reason, hend, hck, hmal.trans hpq⟩

theorem ReceiveEnds.of_long {short : Prop} {s t : State} (h : ReceiveEnds False s t) (hlong : ¬ short) : ReceiveEnds short s t :=
  h.congr (iff_of_false id hlong)

/-! ### The operations that only continue -/

theorem emit_continues (s : State) (e : Effect) : Continues s (s.emit e) := ⟨rfl, rfl, List.prefix_append ..⟩

theorem ethSend_continues (cfg : Config) (dest : Mac) (ty : Word16) (p : Octets) (s : State) :
    Continues s (ethSend cfg dest ty p s) := ⟨rfl, rfl, ethSend_effects_prefix ..⟩

theorem arpResolve_continues (cfg : Config) (ip : Word32) (s : State) : Continues s (arpResolve cfg ip s) :=
  ⟨arpResolve_pending .., arpResolve_results .., arpResolve_effects_prefix ..⟩

theorem ipSend_continues (cfg : Config) (dest : Word32) (pr : Octet) (p : Octets) (s : State) :
    Continues s (ipSend cfg dest pr p s) := ⟨ipSend_pending .., ipSend_results .., ipSend_effects_prefix ..⟩

theorem udpSend_continues (cfg : Config) (dest : Word32) (sp dp : Word16) (p : Octets) (s : State) :
    Continues s (udpSend cfg dest sp dp p s) := ipSend_continues ..

theorem emitSeg_continues (cfg : Config) (c : Conn) (fl : Octet) (d : Octets) (s : State) :
    Continues s (emitSeg cfg c fl d s) := ipSend_continues ..

theorem setConn_continues (s : State) (c : Conn) : Continues s (s.setConn c) := ⟨rfl, rfl, List.prefix_rfl⟩

theorem removeConn_continues (s : State) (c : Conn) : Continues s (s.removeConn c) := ⟨rfl, rfl, List.prefix_rfl⟩

theorem countSyn_continues (cfg : Config) (now : Nat) (s : State) : Continues s (countSyn cfg now s) :=
  ⟨countSyn_pending .., countSyn_results .., by rw [countSyn_effects]⟩

theorem stepEphemeral_continues (s : State) : Continues s s.stepEphemeral := ⟨rfl, rfl, List.prefix_rfl⟩

theorem createConn_continues {cfg : Config} {lip rip : Word32} {lp rp : Word16} {st : TcpState} {s t : State}
    {c : Conn} (h : createConn cfg lip rip lp rp st s = some (c, t)) : Continues s t := by
  obtain ⟨-, -, -, rfl⟩ := createConn_some h
  exact ⟨rfl, rfl, List.prefix_rfl⟩

theorem optSubnetMask_continues (v : Octets) (s : State) : Continues s (optSubnetMask v s) :=
  iteInduction (fun _ => ⟨rfl, rfl, List.prefix_rfl⟩) fun _ => .refl s

theorem optRouter_continues (v : Octets) (s : State) : Continues s (optRouter v s) :=
  iteInduction (fun _ => ⟨rfl, rfl, List.prefix_rfl⟩) fun _ => .refl s

theorem runOptions_continues (fuel : Nat) (b : Octets) (s : State) : Continues s (runOptions fuel b s) :=
  runOptions_of_arms (fun v t h => h.trans (optSubnetMask_continues v t)) (fun v t h => h.trans (optRouter_continues v t)) fuel b s
    (.refl s)

/-! ### The receive operations of ARP, ICMP, DHCP and UDP -/

section

variable {cfg : Config} {s : State}

/-- An address of ours or not (R190). -/
theorem arpLearn_receiveEnds (sha : Mac) (spa tpa : Word32) {after : State → State} (h : ∀ t, Continues t (after t)) :
    ReceiveEnds False s (arpLearn sha spa tpa s after) :=
  iteInduction (fun _ => (Continues.refl s).raiseDrop ⟨nofun, nofun⟩ id)
    fun _ => ((⟨rfl, rfl, List.prefix_rfl⟩ : Continues s (s.setArpCache spa sha)).trans (h _)).endRx id

theorem arpRxRequest_receiveEnds (sha : Mac) (spa tpa : Word32) : ReceiveEnds False s (arpRxRequest cfg sha spa tpa s) :=
  arpLearn_receiveEnds sha spa tpa fun _ => ethSend_continues ..

theorem arpRxOther_receiveEnds (op : Word16) (sha : Mac) (spa tpa : Word32) :
    ReceiveEnds False s (arpRxOther op sha spa tpa s) :=
  arpLearn_receiveEnds sha spa tpa .refl

theorem arpRx_receiveEnds (p : Octets) : ReceiveEnds (p.length < 28) s (arpRx cfg p s) := by
  unfold arpRx caseArp
  split_ifs with hlen hreq
  · exact raiseDrop_malformed_receiveEnds s hlen
  · exact (arpRxRequest_receiveEnds ..).of_long hlen
  · exact (arpRxOther_receiveEnds ..).of_long hlen

theorem icmpRxEchoReply_receiveEnds (src : Word32) (n : Nat) (q : Word16) :
    ReceiveEnds False s (icmpRxEchoReply src n q s) := (emit_continues ..).endRx id

theorem icmpRx_receiveEnds (src : Word32) (b : Octets) : ReceiveEnds (b.length < 8) s (icmpRx src b s) := by
  unfold icmpRx caseIcmp
  split_ifs with hlen hreply
  · exact raiseDrop_malformed_receiveEnds s hlen
  · exact (icmpRxEchoReply_receiveEnds ..).of_long hlen
  · exact (Continues.refl s).raiseDrop ⟨nofun, nofun⟩ hlen

/-- The three drops, or the walk, whatever options it delivers (R265). -/
theorem dhcpRx_receiveEnds (b : Octets) : ReceiveEnds (b.length < 236) s (dhcpRx cfg b s) := by
  unfold dhcpRx
  split_ifs with hlen hmac haddr
  · exact raiseDrop_malformed_receiveEnds s hlen
  · exact (Continues.refl s).raiseDrop ⟨nofun, nofun⟩ hlen
  · exact (Continues.refl s).raiseDrop ⟨nofun, nofun⟩ hlen
  · have hwritten : Continues s (s.setOwnIp (be32 b 16)) := ⟨rfl, rfl, List.prefix_rfl⟩
    exact (hwritten.trans (runOptions_continues ..)).endRx hlen

theorem udpRx_receiveEnds (b : Octets) : ReceiveEnds (udpTooShort b) s (udpRx cfg b s) := by
  unfold udpRx caseUdp
  split_ifs with hlen hport
  · exact raiseDrop_malformed_receiveEnds s (.inl hlen)
  · exact (dhcpRx_receiveEnds _).congr (by simp only [udpTooShort, hlen, hport, true_and, false_or])
  · exact (Continues.refl s).raiseDrop ⟨nofun, nofun⟩ (by simp [udpTooShort, hlen, hport])

/-! ### The receive operations of TCP -/

/-- How an arm that keeps its record ends: segments sent, the record put back, the event completed. -/
theorem setConn_endRx_receiveEnds {t : State} (c : Conn) (h : Continues s t) : ReceiveEnds False s (t.setConn c).endRx :=
  (h.trans (setConn_continues ..)).endRx id

theorem armListen_receiveEnds (seg : TcpSeg) (c : Conn) : ReceiveEnds False s (armListen cfg seg c s) :=
  setConn_endRx_receiveEnds _ (emitSeg_continues ..)

theorem armSynSent_receiveEnds (seg : TcpSeg) (c : Conn) : ReceiveEnds False s (armSynSent cfg seg c s) :=
  setConn_endRx_receiveEnds _ (emitSeg_continues ..)

theorem armSynReceived_receiveEnds (c : Conn) : ReceiveEnds False s (armSynReceived c s) :=
  setConn_endRx_receiveEnds _ (.refl s)

/-- The FIN step, after the segments already sent (R305). -/
theorem armEstablishedFin_receiveEnds {t : State} (seg : TcpSeg) (c : Conn) (h : Continues s t) :
    ReceiveEnds False s (armEstablishedFin cfg seg c t) :=
  setConn_endRx_receiveEnds _ ((h.trans (emitSeg_continues ..)).trans (emitSeg_continues ..))

theorem armEstablishedData_receiveEnds (seg : TcpSeg) (c : Conn) : ReceiveEnds False s (armEstablishedData cfg seg c s) :=
  iteInduction (fun _ => armEstablishedFin_receiveEnds seg _ (emitSeg_continues ..))
    fun _ => setConn_endRx_receiveEnds _ (emitSeg_continues ..)

theorem armFinWait1_receiveEnds (c : Conn) : ReceiveEnds False s (armFinWait1 c s) := setConn_endRx_receiveEnds _ (.refl s)

theorem armFinWait2_receiveEnds (seg : TcpSeg) (c : Conn) : ReceiveEnds False s (armFinWait2 cfg seg c s) :=
  setConn_endRx_receiveEnds _ (emitSeg_continues ..)

/-- LAST_ACK + ACK and TIME_WAIT end alike (R308, R309). -/
theorem removeConn_endRx_receiveEnds (c : Conn) : ReceiveEnds False s (s.removeConn c).endRx :=
  (removeConn_continues ..).endRx id

theorem armNoAction_receiveEnds : ReceiveEnds False s (armNoAction s) := (Continues.refl s).raiseDrop ⟨nofun, nofun⟩ id

theorem stateArm_receiveEnds (seg : TcpSeg) (c : Conn) : ReceiveEnds False s (stateArm cfg seg c s) :=
  caseState_of_arms (P := ReceiveEnds False s) (armListen_receiveEnds ..) (armSynSent_receiveEnds ..)
    (armSynReceived_receiveEnds ..) (armEstablishedData_receiveEnds ..) (armEstablishedFin_receiveEnds seg c (.refl s))
    (armFinWait1_receiveEnds ..) (armFinWait2_receiveEnds ..) (removeConn_endRx_receiveEnds ..) (removeConn_endRx_receiveEnds ..)
    armNoAction_receiveEnds

/-- The LISTEN arm on a record just created, after what came before it (R297). -/
theorem noConnSyn_receiveEnds (src : Word32) (seg : TcpSeg) (now : Nat) :
    ReceiveEnds False s (noConnSyn cfg src seg now s) := by
  have hcounted := countSyn_continues cfg now s
  unfold noConnSyn
  dsimp only
  split
  · exact (hcounted.trans (emit_continues ..)).raiseDrop ⟨nofun, nofun⟩ id
  · split
    · exact hcounted.raiseDrop ⟨nofun, nofun⟩ id
    · rename_i hcreate
      exact setConn_endRx_receiveEnds _ ((hcounted.trans (createConn_continues hcreate)).trans (emitSeg_continues ..))

theorem noConnOther_receiveEnds : ReceiveEnds False s (noConnOther s) := (Continues.refl s).raiseDrop ⟨nofun, nofun⟩ id

/-- A segment parses exactly where it is not too short for its header (R292). -/
theorem parseTcp_eq_none_iff (b : Octets) : parseTcp b = none ↔ tcpTooShort b := by
  rw [parseTcp_eq, ite_eq_left_iff]
  simp [tcpTooShort, tcpHeaderLength, or_iff_not_imp_left]

theorem tcpRx_receiveEnds (src : Word32) (b : Octets) (now : Nat) :
    ReceiveEnds (tcpTooShort b) s (tcpRx cfg src b now s) := by
  unfold tcpRx
  split
  · rename_i hb
    exact raiseDrop_malformed_receiveEnds s ((parseTcp_eq_none_iff b).mp hb)
  · rename_i hb
    have hlong : ¬ tcpTooShort b := fun hshort => nomatch ((parseTcp_eq_none_iff b).mpr hshort).symm.trans hb
    refine ReceiveEnds.of_long ?_ hlong
    split
    · exact caseNoConn_of_arms (noConnSyn_receiveEnds ..) noConnOther_receiveEnds
    · exact stateArm_receiveEnds ..

/-! ### The receive operations of IPv4 and Ethernet -/

/-- A packet is too short for its own header, or its payload is too short for the header of the protocol it names (R210, R211). -/
theorem ipRx_receiveEnds (b : Octets) (now : Nat) : ReceiveEnds (ipTooShort b) s (ipRx cfg b now s) := by
  unfold ipRx caseIp
  split_ifs with hlen hihl hicmp hudp htcp
  · exact raiseDrop_malformed_receiveEnds s (.inl hlen)
  · exact raiseDrop_malformed_receiveEnds s (.inr (.inl hihl))
  all_goals rw [ipHeaderLength] at hihl
  · refine (icmpRx_receiveEnds ..).congr ?_
    simp [ipTooShort, ipHeaderLength, hlen, hihl, hicmp]
  · refine (udpRx_receiveEnds _).congr ?_
    simp [ipTooShort, ipHeaderLength, hlen, hihl, hudp]
  · refine (tcpRx_receiveEnds ..).congr ?_
    simp [ipTooShort, ipHeaderLength, hlen, hihl, htcp]
  · exact (Continues.refl s).raiseDrop ⟨nofun, nofun⟩ (by simp [ipTooShort, hlen, hihl, hicmp, hudp, htcp])

theorem ethRx_receiveEnds (f : Octets) (now : Nat) : ∃ short, ReceiveEnds short s (ethRx cfg f now s) :=
  caseFrame_of_arms (P := fun t => ∃ short, ReceiveEnds short s t) ⟨True, raiseDrop_malformed_receiveEnds s trivial⟩
    (fun p => ⟨_, ipRx_receiveEnds p now⟩) (fun p => ⟨_, ipRx_receiveEnds p now⟩) (fun p => ⟨_, arpRx_receiveEnds p⟩)
    (fun p => ⟨_, arpRx_receiveEnds p⟩) fun _ => ⟨False, (Continues.refl s).raiseDrop ⟨nofun, nofun⟩ id⟩

/-! ### The commands -/

theorem tcpListen_commandEnds (port : Word16) : CommandEnds s (tcpListen cfg port s) := by
  unfold tcpListen
  split
  · exact (Continues.refl s).ret _
  · exact (createConn_continues ‹_›).ret _

theorem tcpAccept_commandEnds (h : Int) : CommandEnds s (tcpAccept h s) := by
  unfold tcpAccept
  split <;> exact (Continues.refl s).ret _

theorem tcpSend_commandEnds (h : Int) (data : Octets) : OnNext (CommandEnds s) (tcpSend cfg h data s) := by
  unfold tcpSend
  split
  · exact onNext_next ((Continues.refl s).ret _)
  · refine iteInduction (fun _ => onNext_next ((Continues.refl s).ret _)) fun _ => onNext_ite_refused fun _ => onNext_next ?_
    exact ((emitSeg_continues ..).trans (setConn_continues ..)).ret _

theorem tcpRecv_commandEnds (h : Int) (maxlen : Nat) : CommandEnds s (tcpRecv cfg h maxlen s) := by
  unfold tcpRecv
  split
  · exact (Continues.refl s).ret _
  · exact (setConn_continues ..).ret _

theorem tcpClose_commandEnds (h : Int) : CommandEnds s (tcpClose cfg h s) := by
  unfold tcpClose
  split
  · exact (Continues.refl s).ret _
  · split
    · exact ((emitSeg_continues ..).trans (setConn_continues ..)).ret _
    · exact (removeConn_continues ..).ret _

theorem tcpConnect_commandEnds (ip : Word32) (port : Word16) : CommandEnds s (tcpConnect cfg ip port s) := by
  unfold tcpConnect
  split
  · exact (stepEphemeral_continues s).ret _
  · rename_i hcreate
    have hcreated := (stepEphemeral_continues s).trans (createConn_continues hcreate)
    exact ((hcreated.trans (emitSeg_continues ..)).trans (setConn_continues ..)).ret _

end

/-! ### Every instruction, by its format -/

/-- An arm of TCP's receive table is handed a segment already parsed: it never ends with `MalformedPacket` (R290, R382). -/
theorem exec_tcpArm_receiveEnds {arm : Instr} (harm : arm.row.format = .tcpStateFlags) (s : State) :
    OnNext (ReceiveEnds False s) (exec arm s) := by
  cases arm with
  | tcpRxNoconnSyn => exact onNext_onNoConn (noConnSyn_receiveEnds ..)
  | tcpRxNoconnOther => exact onNext_onNoConn noConnOther_receiveEnds
  | tcpRxListenSyn => exact onNext_onConn fun _ _ => armListen_receiveEnds ..
  | tcpRxSynSentSynack => exact onNext_onConn fun _ _ => armSynSent_receiveEnds ..
  | tcpRxSynReceivedAck => exact onNext_onConn fun _ _ => armSynReceived_receiveEnds _
  | tcpRxEstablishedData => exact onNext_onConn fun _ _ => armEstablishedData_receiveEnds ..
  | tcpRxEstablishedFin => exact onNext_onConn fun c _ => armEstablishedFin_receiveEnds _ c (.refl s)
  | tcpRxFinWait1Ack => exact onNext_onConn fun _ _ => armFinWait1_receiveEnds _
  | tcpRxFinWait2Fin => exact onNext_onConn fun _ _ => armFinWait2_receiveEnds ..
  | tcpRxLastAckAck | tcpRxTimeWaitAny => exact onNext_onConn fun _ _ => removeConn_endRx_receiveEnds _
  | tcpRxNoAction => exact onNext_onConn fun _ _ => armNoAction_receiveEnds
  | _ => cases harm

/-- Octets that can be too short are handed to arms of Ethernet, IPv4 and UDP alone (R382). -/
theorem not_tooShort_of_format {i : Instr} (h : i.row.format ∉ [.ethertype, .ipProtocol, .udpDport]) : ¬ tooShort i := by
  cases i <;> simp [tooShort, Instr.row] at h ⊢

/-- A receive arm ends its event: `MalformedPacket` exactly where it is handed octets too short, at its own layer or at one it reaches
(R382). -/
theorem exec_receiveEnds {i : Instr} (hcmd : i.row.format ≠ .cmd) (hopt : i.row.format ≠ .dhcpOption) (s : State) :
    OnNext (ReceiveEnds (tooShort i) s) (exec i s) := by
  by_cases harm : i.row.format = .tcpStateFlags
  · exact fun t ht => (exec_tcpArm_receiveEnds harm s t ht).of_long (not_tooShort_of_format (by simp [harm]))
  cases i with
  | ethRxIpv4 | ethRxIpv4Swapped => exact onNext_next ((ipRx_receiveEnds ..).congr (by simp [tooShort]))
  | ethRxArp | ethRxArpSwapped => exact onNext_next ((arpRx_receiveEnds _).congr (by simp [tooShort]))
  | ipRxIcmp => exact onNext_next ((icmpRx_receiveEnds ..).congr (by simp [tooShort]))
  | ipRxTcp => exact onNext_next ((tcpRx_receiveEnds ..).congr (by simp [tooShort]))
  | ipRxUdp => exact onNext_next ((udpRx_receiveEnds _).congr (by simp [tooShort]))
  | udpRxDhcpClient => exact onNext_next ((dhcpRx_receiveEnds _).congr (by simp [tooShort]))
  | arpRxRequest => exact onNext_next ((arpRxRequest_receiveEnds ..).of_long (by simp [tooShort]))
  | arpRxOther => exact onNext_next ((arpRxOther_receiveEnds ..).of_long (by simp [tooShort]))
  | icmpRxEchoReply => exact onNext_next ((icmpRxEchoReply_receiveEnds ..).of_long (by simp [tooShort]))
  | ethRxUnknown | ipRxUnknown | icmpRxOther | udpRxOther =>
    exact onNext_next ((Continues.refl s).raiseDrop ⟨nofun, nofun⟩ (by simp [tooShort]))
  | dhcpOptPad | dhcpOptEnd | dhcpOptSubnetMask | dhcpOptRouter | dhcpOptOther => exact absurd rfl hopt
  | tcpRxNoconnSyn | tcpRxNoconnOther | tcpRxListenSyn | tcpRxSynSentSynack | tcpRxSynReceivedAck | tcpRxEstablishedData
  | tcpRxEstablishedFin | tcpRxFinWait1Ack | tcpRxFinWait2Fin | tcpRxLastAckAck | tcpRxTimeWaitAny | tcpRxNoAction =>
    exact absurd rfl harm
  | _ => exact absurd rfl hcmd

/-- An option arm ends no event (R160, R267). -/
theorem exec_option_continues {i : Instr} (hopt : i.row.format = .dhcpOption) (s : State) :
    OnNext (Continues s) (exec i s) := by
  cases i with
  | dhcpOptPad | dhcpOptEnd | dhcpOptOther => exact onNext_next (.refl s)
  | dhcpOptSubnetMask => exact onNext_next (optSubnetMask_continues ..)
  | dhcpOptRouter => exact onNext_next (optRouter_continues ..)
  | _ => cases hopt

/-- A command that is not refused ends with the value it returns (R384). -/
theorem exec_commandEnds {i : Instr} (hcmd : i.row.format = .cmd) (s : State) : OnNext (CommandEnds s) (exec i s) := by
  cases i with
  | ethSend | arpRequest => exact onNext_next ((ethSend_continues ..).ret _)
  | arpResolve => exact onNext_next ((arpResolve_continues ..).ret _)
  | ipSend => exact onNext_ite_refused fun _ => onNext_next ((ipSend_continues ..).ret _)
  | icmpEcho => exact onNext_next ((ipSend_continues ..).ret _)
  | udpSend => exact onNext_ite_refused fun _ => onNext_next ((udpSend_continues ..).ret _)
  | dhcpDiscover => exact onNext_next ((udpSend_continues ..).ret _)
  | ipGetIp | ipGetGateway | ipGetNetmask => exact onNext_next ((Continues.refl s).ret _)
  | ipSetIp | ipSetGateway | ipSetNetmask => exact onNext_next ⟨_, rfl, rfl, List.prefix_rfl⟩
  | tcpListen => exact onNext_next (tcpListen_commandEnds _)
  | tcpAccept => exact onNext_next (tcpAccept_commandEnds _)
  | tcpSend => exact tcpSend_commandEnds _ _
  | tcpRecv => exact onNext_next (tcpRecv_commandEnds ..)
  | tcpClose => exact onNext_next (tcpClose_commandEnds _)
  | tcpConnect => exact onNext_next (tcpConnect_commandEnds ..)
  | _ => cases hcmd

end Sys2Proof.Machine

/-! PROOFS. What a step does with the oldest event (R17, R170, R382, R384, R401, R402). -/

namespace Sys2Proof.Machine

/-! ### The event taken -/

/-- A state with a pending event is the state without it, the event delivered. -/
theorem step_of_pending_cons {s : State} {e : Event} {rest : List Event} (hp : s.pending = e :: rest) :
    step s = ({ s with pending := rest } : State).runDecoded (decodeEvent e) := by
  rw [← step_deliver, State.deliver, ← hp]

/-- A frame is taken and ETH.RX runs (R17, R170). -/
theorem step_of_pending_rx {s : State} {f : Octets} {now : Nat} {rest : List Event} (hp : s.pending = .rx f now :: rest) :
    step s = .next (ethRx Config.chip f now { s with pending := rest }) := by
  rw [step_of_pending_cons hp, ← step_deliver, step_deliver_rx]

/-- Settles O4: ETH.RX ends its event, from the state without it. -/
theorem everyReceiveEventEnds : Obligations.EveryReceiveEventEnds := by
  intro s f now rest hp
  obtain ⟨short, reason, ⟨hpending, hresults, heffects⟩, hck, -⟩ :=
    ethRx_receiveEnds (cfg := Config.chip) (s := { s with pending := rest }) f now
  exact ⟨_, reason, step_of_pending_rx hp, hpending, hresults, hck, heffects⟩

/-! ### A command within its bounds -/

/-- In a state with the invariants no send is longer than one segment holds (R10, R33, R222). -/
theorem length_sendableData_le {s : State} (hi : s.Inv Config.chip) {c : Conn} (hc : c ∈ s.connTable) (data : Octets) :
    (sendableData c data).length ≤ maxTcpData := by
  have hend := (hi.conns c hc).windowEnd
  have hinit := Config.chip.sendWindowInit_le
  rw [length_sendableData, Conn.usableWindow, maxTcpData]
  omega

theorem tcpSend_next {s : State} (hi : s.Inv Config.chip) (h : Int) (data : Octets) :
    ∃ t, tcpSend Config.chip h data s = .next t := by
  cases hf : s.establishedByHandle h with
  | none => exact ⟨_, tcpSend_of_not_found hf data⟩
  | some c =>
    have hle := length_sendableData_le hi (establishedByHandle_some hf).1 data
    rcases Nat.eq_zero_or_pos (sendableData c data).length with hzero | hpos
    · exact ⟨_, tcpSend_of_length_eq_zero hf hzero⟩
    · exact ⟨_, tcpSend_of_length_pos hf hpos hle⟩

theorem exec_udpSend_of_le {p : Octets} (h : p.length ≤ 65507) (dest : Word32) (sp dp : Word16) (s : State) :
    exec (.udpSend dest sp dp p) s = .next ((udpSend Config.chip dest sp dp p s).ret .nothing) := if_neg (Nat.not_lt.mpr h)

/-- A well-formed command is not refused (R222, R253, R402). -/
theorem exec_command_next {s : State} (hi : s.Inv Config.chip) {i : Instr} (hcmd : i.row.format = .cmd)
    (hwf : i.wellFormed = true) : ∃ t, exec i s = .next t := by
  cases i with
  | ipSend => exact ⟨_, exec_ipSend_of_le (of_decide_eq_true hwf) ..⟩
  | udpSend => exact ⟨_, exec_udpSend_of_le (of_decide_eq_true hwf) ..⟩
  | tcpSend => exact tcpSend_next hi _ _
  | ethSend | arpResolve | arpRequest | icmpEcho | dhcpDiscover | ipGetIp | ipGetGateway | ipGetNetmask | ipSetIp | ipSetGateway
  | ipSetNetmask | tcpListen | tcpAccept | tcpRecv | tcpClose | tcpConnect => exact ⟨_, rfl⟩
  | _ => cases hcmd

/-- Settles O5: the command is not refused, and it ends with the value it returns. -/
theorem everyCommandEnds : Obligations.EveryCommandEnds := by
  intro s code args now rest i hi hp hd hwf
  obtain ⟨hcmd, -⟩ := decodeCommand_ok (now := now) hd
  have htaken : ({ s with pending := rest } : State).Inv Config.chip := ⟨hi.conns, hi.tuples, hi.handles, hi.fresh, hi.capacity⟩
  obtain ⟨t, ht⟩ := exec_command_next htaken hcmd hwf
  obtain ⟨v, hpending, hresults, heffects⟩ := exec_commandEnds hcmd _ t ht
  exact ⟨t, v, (stepRunsDecodedInstruction s _ rest i hp hd).trans ht, hpending, hresults, heffects⟩

/-! ### Steps without an instruction -/

/-- A command code outside R111 is rejected whatever its operands (U14). -/
theorem decodeCommand_of_unknown {code : Octet} (args : List Operand)
    (h : ¬ ((1 ≤ code.toNat ∧ code.toNat ≤ 7) ∨ (16 ≤ code.toNat ∧ code.toNat ≤ 21) ∨ (32 ≤ code.toNat ∧ code.toNat ≤ 37))) :
    decodeCommand code args = .error .unknownCommandCode := by
  unfold decodeCommand
  split <;> try omega
  rfl

theorem ethRx_of_short (cfg : Config) {f : Octets} (h : f.length < 14) (now : Nat) (s : State) :
    ethRx cfg f now s = s.raiseDrop .malformedPacket := if_pos h

/-- Settles O3: no event; a frame that ETH.RX finds too short; a code that decodes to no command. -/
theorem stepWithoutInstruction : Obligations.StepWithoutInstruction := by
  refine ⟨fun s hp => ?idle, fun s f now rest hp hshort => ?short, fun s code args now rest hp hcode => ?unknown⟩
  case idle => simp only [step, hp]
  case short => rw [step_of_pending_rx hp, ethRx_of_short _ hshort]; rfl
  case unknown =>
    have hd : decodeEvent (.cmd code args now) = .error .unknownCommandCode := decodeCommand_of_unknown args hcode
    rw [step_of_pending_cons hp, hd]
    rfl

end Sys2Proof.Machine

/-! PROOFS. The places of `MalformedPacket` (R382): the drop of each layer, the decoders, and every instruction. -/

namespace Sys2Proof.Machine

/-! ### The decoders -/

theorem decodeFrame_eq_malformed_iff (f : Octets) (now : Nat) : decodeFrame f now = .error .malformedPacket ↔ f.length < 14 := by
  unfold decodeFrame caseFrame
  split_ifs <;> simp [*]

theorem decodeArp_eq_malformed_iff (p : Octets) : decodeArp p = .error .malformedPacket ↔ p.length < 28 := by
  unfold decodeArp caseArp
  split_ifs <;> simp [*]

theorem decodeIp_eq_malformed_iff (b : Octets) (now : Nat) :
    decodeIp b now = .error .malformedPacket ↔ b.length < 20 ∨ b.length < ipHeaderLength b := by
  unfold decodeIp caseIp
  split_ifs <;> simp [*]

theorem decodeIcmp_eq_malformed_iff (src : Word32) (b : Octets) :
    decodeIcmp src b = .error .malformedPacket ↔ b.length < 8 := by
  unfold decodeIcmp caseIcmp
  split_ifs <;> simp [*]

theorem decodeUdp_eq_malformed_iff (b : Octets) : decodeUdp b = .error .malformedPacket ↔ b.length < 8 := by
  unfold decodeUdp caseUdp
  split_ifs <;> simp [*]

theorem decodeTcp_eq_malformed_iff (found : Option TcpState) (src : Word32) (b : Octets) (now : Nat) :
    decodeTcp found src b now = .error .malformedPacket ↔ tcpTooShort b := by
  rw [← parseTcp_eq_none_iff]
  cases hb : parseTcp b <;> simp [decodeTcp, hb]

/-! ### Every instruction -/

/-- The result is `MalformedPacket` exactly where the octets were too short (R382): by the format, which says how the instruction
ends. -/
theorem results_eq_malformed_iff {i : Instr} {s t : State} (h : exec i s = .next t) :
    t.results = s.results ++ [.rx (some .malformedPacket)] ↔ tooShort i := by
  by_cases hcmd : i.row.format = .cmd
  · obtain ⟨v, -, hresults, -⟩ := exec_commandEnds hcmd s t h
    exact iff_of_false (by simp [hresults]) (not_tooShort_of_format (by simp [hcmd]))
  by_cases hopt : i.row.format = .dhcpOption
  · obtain ⟨-, hresults, -⟩ := exec_option_continues hopt s t h
    exact iff_of_false (by simp [hresults]) (not_tooShort_of_format (by simp [hopt]))
  · obtain ⟨reason, ⟨-, hresults, -⟩, -, hmal⟩ := exec_receiveEnds hcmd hopt s t h
    rw [← hmal, hresults]
    simp

/-- Settles O19: each layer's length test, each decoder, and how every instruction ends. -/
theorem malformedPacketPlaces : Obligations.MalformedPacketPlaces := by
  intro s
  refine ⟨fun f now h => ?eth, fun p h => ?arp, fun b now h => ?ip, fun src b h => ?icmp, fun src b h => ?udp, fun b h => ?dhcp,
    fun src b now h => ?tcp, decodeFrame_eq_malformed_iff, decodeArp_eq_malformed_iff, decodeIp_eq_malformed_iff,
    decodeIcmp_eq_malformed_iff, decodeUdp_eq_malformed_iff, decodeTcp_eq_malformed_iff, fun b h => ?dhcpLong,
    fun i t h => results_eq_malformed_iff h⟩
  case eth => exact (step_deliver_rx f now s).trans (congrArg Host.Outcome.next (ethRx_of_short _ h now s))
  case arp => exact (exec_ethRxArp p s).trans (if_pos h)
  case ip =>
    rw [exec_ethRxIpv4, caseIp, ← ite_or]
    exact if_pos h
  case icmp => exact (exec_ipRxIcmp src b s).trans (if_pos h)
  case udp => exact (exec_ipRxUdp src b s).trans (if_pos h)
  case dhcp => exact congrArg Host.Outcome.next (if_pos h)
  case tcp => exact exec_ipRxTcp_of_malformed ((parseTcp_eq_none_iff b).mpr h) src now s
  case dhcpLong =>
    obtain ⟨reason, ⟨-, hresults, -⟩, -, hmal⟩ := dhcpRx_receiveEnds (cfg := Config.chip) (s := s) b
    exact ⟨_, reason, rfl, hresults, fun hshort => Nat.not_lt.mpr h (hmal.mp hshort)⟩

end Sys2Proof.Machine

/-! PROOFS. Received checksums (R383): a field written into a header changes no other field, so no dispatch sees it. -/

namespace Sys2Proof.Machine

/-! ### A 16-bit field written: what stands before and after it -/

section

variable {b : Octets} {k : Nat} (h : k + 2 ≤ b.length) (v : Word16)

include h

theorem length_setHalfAt : (setHalfAt b k v).length = b.length := by
  simp [setHalfAt]
  omega

theorem drop_setHalfAt {n : Nat} (hn : k + 2 ≤ n) : (setHalfAt b k v).drop n = b.drop n := by
  obtain ⟨m, rfl⟩ := Nat.exists_eq_add_of_le hn
  have hhead : (b.take k ++ put16 v).length = k + 2 := by simp; omega
  rw [← List.drop_drop, setHalfAt, List.drop_left' hhead, List.drop_drop]

theorem octetAt_setHalfAt {i : Nat} (hi : i < k ∨ k + 2 ≤ i) : octetAt (setHalfAt b k v) i = octetAt b i := by
  rcases hi with hi | hi
  · have hlt : i < (b.take k).length := by rw [List.length_take]; omega
    rw [setHalfAt, List.append_assoc, octetAt_append_left _ hlt]
    simp only [octetAt, List.getD_eq_getElem?_getD, List.getElem?_take, if_pos hi]
  · rw [← Nat.add_zero i, ← octetAt_drop, drop_setHalfAt h v hi, octetAt_drop]

theorem be16_setHalfAt {i : Nat} (hi : i + 2 ≤ k ∨ k + 2 ≤ i) : be16 (setHalfAt b k v) i = be16 b i := by
  rw [be16, be16, octetAt_setHalfAt h v (by omega), octetAt_setHalfAt h v (by omega)]

theorem be32_setHalfAt {i : Nat} (hi : i + 4 ≤ k ∨ k + 2 ≤ i) : be32 (setHalfAt b k v) i = be32 b i := by
  rw [be32, be32, octetAt_setHalfAt h v (by omega), octetAt_setHalfAt h v (by omega), octetAt_setHalfAt h v (by omega),
    octetAt_setHalfAt h v (by omega)]

end

/-! ### The checksum field of each header -/

/-- `ParseTcp` reads no octet of the checksum field (R291). -/
theorem parseTcp_setChecksum {b : Octets} (hlen : 20 ≤ b.length) (hheader : 20 ≤ tcpHeaderLength b) (v : Word16) :
    parseTcp (setHalfAt b 16 v) = parseTcp b := by
  have h : 16 + 2 ≤ b.length := by omega
  have hoffset : tcpHeaderLength (setHalfAt b 16 v) = tcpHeaderLength b := by
    rw [tcpHeaderLength, tcpHeaderLength, octetAt_setHalfAt h v (by omega)]
  rw [parseTcp_eq, parseTcp_eq, hoffset, length_setHalfAt h, drop_setHalfAt h v (by omega), be16_setHalfAt h v (by omega),
    be16_setHalfAt h v (by omega), be16_setHalfAt h v (by omega), be32_setHalfAt h v (by omega), be32_setHalfAt h v (by omega),
    octetAt_setHalfAt h v (by omega)]

/-- Settles O28: the fields of IPv4, ICMP and UDP that are looked at stand outside the checksum, and a TCP segment parses alike. -/
theorem receivedChecksumsIgnored : Obligations.ReceivedChecksumsIgnored := by
  intro src b now v s
  obtain ⟨-, -, hip, hicmp, hudp⟩ := ignoredHeaderFields s
  refine ⟨fun hlen hheader => ?ip, fun hlen => ?icmp, fun hlen => ?udp, fun hlen hheader => ?tcp⟩
  case ip =>
    have h : 10 + 2 ≤ b.length := by omega
    have hoffset : (octetAt (setHalfAt b 10 v) 0).toNat % 16 = (octetAt b 0).toNat % 16 := by
      rw [octetAt_setHalfAt h v (by omega)]
    exact hip _ _ now (length_setHalfAt h v) hoffset (octetAt_setHalfAt h v (by omega)) (be32_setHalfAt h v (by omega))
      (drop_setHalfAt h v (by omega))
  case icmp =>
    have h : 2 + 2 ≤ b.length := by omega
    exact hicmp src _ _ (length_setHalfAt h v) (octetAt_setHalfAt h v (by omega)) (be16_setHalfAt h v (by omega))
  case udp =>
    exact hudp src src _ _ (length_setHalfAt hlen v) (be16_setHalfAt hlen v (by omega)) (drop_setHalfAt hlen v (by omega))
  case tcp =>
    rw [exec_ipRxTcp_eq_runNested, exec_ipRxTcp_eq_runNested, decodeTcp, decodeTcp, parseTcp_setChecksum hlen hheader]

end Sys2Proof.Machine

/-! PROOFS. The type of an Ethernet frame (R146, R171, R172): both byte orders, and every other type. -/

namespace Sys2Proof.Machine

/-! ### The octet swap (R146) -/

/-- Two octets joined are swapped. -/
theorem swap16_append (a b : Octet) : swap16 (a ++ b) = b ++ a :=
  congrArg₂ (· ++ ·) BitVec.extractLsb'_append_eq_right BitVec.extractLsb'_append_eq_left

theorem swap16_swap16 (v : Word16) : swap16 (swap16 v) = v :=
  (swap16_append ..).trans (half_of_octets v)

theorem swap16_toNat (v : Word16) : (swap16 v).toNat = v.toNat % 256 * 256 + v.toNat / 256 := by
  have hv := v.isLt
  rw [swap16, toNat_append_octet, extractOctet_eq_ofNat, extractOctet_eq_ofNat, BitVec.toNat_ofNat, BitVec.toNat_ofNat]
  omega

/-! ### A frame of a given type -/

/-- The step on a frame written out as its addresses, its type and its payload (R170 to R172). -/
theorem step_deliver_typed {addresses : Octets} (h : addresses.length = 12) (t : Word16) (payload : Octets) (now : Nat) (s : State) :
    step (s.deliver (.rx (addresses ++ put16 t ++ payload) now)) =
      if t = 0x0800#16 ∨ t = 0x0008#16 then s.runNested (decodeIp payload now)
      else if t = 0x0806#16 ∨ t = 0x0608#16 then s.runNested (decodeArp payload)
      else .next { s with results := s.results ++ [.rx (some .unknownEtherType)] } := by
  have hlen : (addresses ++ put16 t ++ payload).length = 14 + payload.length := by simp [h]; omega
  have htype : be16 (addresses ++ put16 t ++ payload) 12 = t := by
    have hfield := be16_append_right addresses (put16 t ++ payload) 0
    rwa [be16_put16_append, h, ← List.append_assoc] at hfield
  have hpayload : (addresses ++ put16 t ++ payload).drop 14 = payload := List.drop_left' (by simp [h])
  rw [ethernetDispatch.1, if_neg (by omega), htype, hpayload]

/-- Settles O16: the swap, and for each known type the branch that both of its byte orders take. -/
theorem etherTypeBothOrders : Obligations.EtherTypeBothOrders := by
  refine ⟨fun v => ⟨swap16_toNat v, swap16_swap16 v⟩, rfl, rfl, fun s addresses payload now h => ⟨?ip, ?arp⟩⟩
  case ip => exact (step_deliver_typed h 0x0008#16 payload now s).trans (step_deliver_typed h 0x0800#16 payload now s).symm
  case arp => exact (step_deliver_typed h 0x0608#16 payload now s).trans (step_deliver_typed h 0x0806#16 payload now s).symm

/-- Settles O17: the last branch. -/
theorem unknownEtherTypeDropped : Obligations.UnknownEtherTypeDropped := by
  intro s addresses payload t now h h4 h4s ha has
  refine ⟨?_, rfl⟩
  rw [step_deliver_typed h, if_neg (not_or_intro h4 h4s), if_neg (not_or_intro ha has)]

end Sys2Proof.Machine

/-! PROOFS. The checksum in closed form, and trailing zeros (R150, R151). -/

namespace Sys2Proof.Machine

/-- The fold in closed form: a sum of 0 stays 0, any other is reduced to 1..65535 modulo 65535 (R150). -/
theorem foldCarries_eq (s : Nat) : foldCarries s s = if s = 0 then 0 else (s - 1) % 65535 + 1 := by
  split_ifs with hzero
  · rw [hzero]; rfl
  · have hlt := foldCarries_lt s s le_rfl
    have hmod := foldCarries_mod s s
    have hpos := foldCarries_pos s s (Nat.pos_of_ne_zero hzero)
    omega

theorem checksum_congr {b b' : Octets} (h : wordSum b = wordSum b') : checksum b = checksum b' := by
  rw [checksum, checksum, h]

/-- A zero word at the end adds nothing, whether or not it straddles the last word (R151 b). -/
theorem wordSum_append_zero_zero (b : Octets) : wordSum (b ++ [0, 0]) = wordSum b := by
  induction b using wordSum.induct with
  | case1 => rfl
  | case2 a => simp [wordSum]
  | case3 a b rest ih => simp only [List.cons_append, wordSum, ih]

/-- A zero octet that fills up the last word adds nothing: that is how the sum pads it (R150). -/
theorem wordSum_append_zero {b : Octets} (h : b.length % 2 = 1) : wordSum (b ++ [0]) = wordSum b := by
  induction b using wordSum.induct with
  | case1 => cases h
  | case2 a => simp [wordSum]
  | case3 a b rest ih =>
    have hrest : rest.length % 2 = 1 := by simpa [Nat.add_assoc] using h
    simp only [List.cons_append, wordSum, ih hrest]

theorem wordSum_eq_zero_iff (b : Octets) : wordSum b = 0 ↔ ∀ o ∈ b, o = 0 := by
  have octet (o : Octet) : o.toNat = 0 ↔ o = 0#8 := BitVec.toNat_inj (y := 0#8)
  induction b using wordSum.induct with
  | case1 => simp [wordSum]
  | case2 a => simp [wordSum, octet]
  | case3 a b rest ih => simp [wordSum, ih, octet, and_assoc]

/-- The complement is 0xFFFF where the sum folds to 0, and only a sum of 0 does (R151 d). -/
theorem checksum_eq_ffff_iff (b : Octets) : checksum b = 0xffff#16 ↔ wordSum b = 0 := by
  have hlt := foldCarries_lt _ _ (le_refl (wordSum b))
  rw [← BitVec.toNat_inj, checksum_toNat, foldCarries_eq, show (0xffff#16).toNat = 65535 from rfl]
  split_ifs <;> omega

/-- Settles O11: the fold's closed form, the two paddings, and the sum that is 0. -/
theorem checksumValue : Obligations.ChecksumValue :=
  ⟨fun b => by rw [checksum_toNat, foldCarries_eq], fun b => checksum_congr (wordSum_append_zero_zero b),
    fun _ h => checksum_congr (wordSum_append_zero h), fun b => (checksum_eq_ffff_iff b).trans (wordSum_eq_zero_iff b)⟩

end Sys2Proof.Machine

/-! PROOFS. The built headers of IPv4, UDP, DHCP and TCP (R219, R252, R260, R299), and the ARP request (R195). -/

namespace Sys2Proof.Machine

/-! ### The IPv4 header (R219) -/

section

variable (ownIp dest : Word32) (protocol : Octet) (n : Nat)

/-- The header with its checksum field still zero, which the checksum is taken over (R152, R219). -/
def ipHeaderWithoutChecksum : Octets :=
  [0x45, 0x00] ++ put16 (BitVec.ofNat 16 (20 + n)) ++ [0x00, 0x00, 0x00, 0x00, 64, protocol, 0x00, 0x00] ++ put32 ownIp ++ put32 dest

theorem buildIpHeader_layout :
    buildIpHeader ownIp dest protocol n =
      [0x45, 0x00] ++ put16 (BitVec.ofNat 16 (20 + n)) ++ [0x00, 0x00, 0x00, 0x00, 64, protocol]
        ++ put16 (checksum (ipHeaderWithoutChecksum ownIp dest protocol n)) ++ put32 ownIp ++ put32 dest := rfl

/-- The header verifies (R151 a): its checksum field stood at the even offset 10 and held zero. -/
theorem checksum_buildIpHeader : checksum (buildIpHeader ownIp dest protocol n) = 0 :=
  insertedChecksumVerifies [] (ipHeaderWithoutChecksum ownIp dest protocol n) 10 rfl rfl (show 10 + 2 ≤ 20 by decide) rfl rfl

end

/-- Settles O23: layout, length and checksum of the header. -/
theorem ipHeaderLayout : Obligations.IpHeaderLayout := fun _ _ _ _ _ =>
  ⟨⟨_, buildIpHeader_layout .., rfl⟩, length_buildIpHeader .., checksum_buildIpHeader ..⟩

/-! ### The ARP request (R195) -/

theorem length_arpRequestFrame (cfg : Config) (target : Word32) (s : State) : (arpRequestFrame cfg target s).length = 60 := by
  rw [arpRequestFrame, length_ethFrame, length_buildArp]

/-- Settles O22: the frame written out is the one ARP.REQUEST makes its draw for and emits. -/
theorem exec_arpRequest : Obligations.ArpRequest := by
  intro target s f hf
  have hframe : f = arpRequestFrame Config.chip target s := hf
  have hlen : f.length = 60 := hframe ▸ length_arpRequestFrame ..
  have hreq := arpRequest_eq Config.chip target s
  rw [← hframe, hlen] at hreq
  exact ⟨hlen, congrArg (fun sent : State => Host.Outcome.next (sent.ret .nothing)) hreq⟩

/-! ### UDP.SEND and DHCP.DISCOVER (R252, R253, R260, R261) -/

/-- Settles O32: within the bound the datagram, with its header of 8 octets, is within the bound of IP.SEND. -/
theorem exec_udpSend : Obligations.UdpSend := by
  intro dest sp dp p s
  refine ⟨fun h => ⟨?_, _, exec_udpSend_of_le h ..⟩, fun h => if_pos h, fun _ h => if_pos h⟩
  have hbound : (put16 sp ++ put16 dp ++ put16 (BitVec.ofNat 16 (8 + p.length)) ++ [0, 0] ++ p).length ≤ 65515 := by
    simp
    omega
  rw [exec_udpSend_of_le h, exec_ipSend_of_le hbound]
  rfl

/-- The DISCOVER message, field by field (R260). -/
theorem buildDiscover_layout (cfg : Config) :
    buildDiscover cfg =
      [1, 1, 6, 0] ++ put32 cfg.dhcpXid ++ [0, 0] ++ put16 cfg.dhcpFlags
        ++ [0, 0, 0, 0] ++ [0, 0, 0, 0] ++ [0, 0, 0, 0] ++ [0, 0, 0, 0]
        ++ cfg.ownMac.octets ++ List.replicate 10 0 ++ List.replicate 64 0 ++ List.replicate 128 0
        ++ [0x63, 0x82, 0x53, 0x63] ++ [53, 1, 1]
        ++ ([55, BitVec.ofNat 8 cfg.dhcpPrl.length] ++ cfg.dhcpPrl) ++ [255] := rfl

theorem length_buildDiscover (cfg : Config) : (buildDiscover cfg).length = 246 + cfg.dhcpPrl.length := by
  simp only [buildDiscover_layout, List.length_append, List.length_cons, List.length_nil, List.length_replicate, length_put32,
    length_put16, length_macOctets]
  omega

/-- Settles O33: the message, at most 501 octets long, is within the bound of UDP.SEND. -/
theorem exec_dhcpDiscover : Obligations.DhcpDiscover := by
  intro s
  have hbound : (buildDiscover Config.chip).length ≤ 65507 := by
    have hprl := Config.chip.dhcpPrl_le
    rw [length_buildDiscover]
    omega
  exact ⟨buildDiscover Config.chip, buildDiscover_layout _, length_buildDiscover _, (exec_udpSend_of_le hbound ..).symm, _, rfl⟩

/-! ### Creating a record and sending a segment of it (R295, R299) -/

/-- Settles O39: the two ways out of `CreateConn`. -/
theorem createConnection : Obligations.CreateConnection := by
  refine fun lip rip lport rport st s c => ⟨createConn_of_taken_or_full, fun hfree hroom hc => ?_⟩
  subst hc
  exact createConn_of_room hfree hroom

/-- SYN and FIN are the bits of the mask 0x03 (R104, R299). -/
theorem flagsSequenceCount_eq (fl : Octet) : flagsSequenceCount fl = if fl &&& 0x03#8 ≠ 0 then 1 else 0 := by
  have hmask : fl &&& 0x03#8 = (fl &&& 0x02#8) ||| (fl &&& 0x01#8) := BitVec.and_or_distrib_left (x := fl) (y := 0x02#8) (z := 0x01#8)
  rw [flagsSequenceCount, hmask, and_flagSyn, and_flagFin]
  cases hasSyn fl <;> cases hasFin fl <;> rfl

/-- Settles O40: the checksum stands in the header over the two zero octets it was taken with. -/
theorem emitSegment : Obligations.EmitSegment := by
  refine fun c fl data s _ => ⟨⟨_, rfl, rfl⟩, ?_⟩
  rw [Conn.countSegment, flagsSequenceCount_eq]

end Sys2Proof.Machine

/-! PROOFS. What the option walk delivers (R160, R161), and what DHCP.RX makes of it (R265, R267). -/

namespace Sys2Proof.Machine

/-! ### The head of a stream -/

/-- Every stream begins with a stop, a pad or a whole option (R109, R160). -/
theorem stopsWalk_or_pad_or_option (b : Octets) :
    StopsWalk b ∨ (∃ rest, b = 0 :: rest)
      ∨ ∃ (c : Octet) (v rest : Octets), c ≠ 0 ∧ c ≠ 255 ∧ v.length ≤ 255 ∧ b = tlvEncode c v ++ rest := by
  cases b with
  | nil => exact .inl (.inl rfl)
  | cons c rest =>
    by_cases h255 : c = 255
    · exact .inl (.inr (.inl ⟨rest, by rw [h255]; rfl⟩))
    by_cases h0 : c = 0
    · exact .inr (.inl ⟨rest, by rw [h0]⟩)
    cases rest with
    | nil => exact .inl (.inr (.inr (.inl ⟨c, h0, h255, rfl⟩)))
    | cons n body =>
      by_cases hcut : body.length < n.toNat
      · exact .inl (.inr (.inr (.inr ⟨c, n, body, h0, h255, hcut, rfl⟩)))
      · have hlen : (body.take n.toNat).length = n.toNat := List.length_take_of_le (Nat.le_of_not_lt hcut)
        refine .inr (.inr ⟨c, body.take n.toNat, body.drop n.toNat, h0, h255, ?_, ?_⟩)
        · exact hlen.trans_le (Nat.le_of_lt_succ n.isLt)
        · rw [tlvEncode, hlen, BitVec.ofNat_toNat, BitVec.setWidth_eq, List.cons_append, List.cons_append, List.take_append_drop]

/-! ### Each option delivered stands whole in the stream (R161) -/

/-- The option `o` has a code that is neither pad nor end, is delivered with its length, and stands whole in the octets `b`. -/
def StandsIn (b : Octets) (o : Octet × Nat × Octets) : Prop :=
  o.1 ≠ 0 ∧ o.1 ≠ 255 ∧ o.2.1 = o.2.2.length ∧ o.2.1 ≤ 255 ∧ (o.1 :: BitVec.ofNat 8 o.2.1 :: o.2.2) <:+: b

theorem StandsIn.of_suffix {b b' : Octets} {o : Octet × Nat × Octets} (h : StandsIn b o) (hb : b <:+ b') : StandsIn b' o := by
  obtain ⟨h0, h255, hlen, hle, hin⟩ := h
  exact ⟨h0, h255, hlen, hle, hin.trans hb.isInfix⟩

/-- Every option the walk delivers stands whole in the octets it walks over: at their head, or in the rest. -/
theorem standsIn_of_mem_tlvWalkFrom (fuel : Nat) (b : Octets) : ∀ o ∈ tlvWalkFrom fuel b, StandsIn b o := by
  induction fuel generalizing b with
  | zero => exact fun _ => nofun
  | succ fuel ih =>
    rcases stopsWalk_or_pad_or_option b with hstop | ⟨rest, rfl⟩ | ⟨c, v, rest, h0, h255, hv, rfl⟩
    · rw [tlvWalkFrom_of_stopsWalk _ hstop]
      exact fun _ => nofun
    · exact fun o ho => (ih rest o ho).of_suffix (List.suffix_cons ..)
    · rw [tlvWalkFrom_tlvEncode fuel h0 h255 hv]
      refine List.forall_mem_cons.mpr ⟨⟨h0, h255, rfl, hv, ?_⟩, fun o ho => (ih rest o ho).of_suffix (List.suffix_append ..)⟩
      exact (List.prefix_append (tlvEncode c v) rest).isInfix

/-- Settles O14: no octets from the start on, or the walk over those that are there. -/
theorem tlvWalkStaysInside : Obligations.TlvWalkStaysInside := by
  refine fun b off => ⟨fun h => ?_, standsIn_of_mem_tlvWalkFrom b.length (b.drop off)⟩
  rw [tlvWalk, List.drop_eq_nil_of_le h]
  exact tlvWalkFrom_of_stopsWalk _ (.inl rfl)

/-! ### DHCP.RX applies the options delivered, in order (R265) -/

/-- At a stop no option arm that writes is run. -/
theorem runOptions_of_stopsWalk (fuel : Nat) {b : Octets} (h : StopsWalk b) (s : State) : runOptions fuel b s = s := by
  cases fuel with
  | zero => rfl
  | succ fuel =>
    rcases h with rfl | ⟨rest, rfl⟩ | ⟨c, h0, h255, rfl⟩ | ⟨c, n, v, h0, h255, hcut, rfl⟩
    · rfl
    · rfl
    · exact (if_neg h255).trans (if_neg h0)
    · exact (if_neg h255).trans ((if_neg h0).trans (if_pos hcut))

theorem applyOption_subnetMask (s : State) (v : Octets) : applyOption s (1#8, v.length, v) = optSubnetMask v s := by
  simp [applyOption, optSubnetMask, State.setNetmask]

theorem applyOption_router (s : State) (v : Octets) : applyOption s (3#8, v.length, v) = optRouter v s := by
  simp [applyOption, optRouter, State.setGatewayIp]

theorem applyOption_other {c : Octet} (h1 : c ≠ 1#8) (h3 : c ≠ 3#8) (s : State) (n : Nat) (v : Octets) :
    applyOption s (c, n, v) = s := by
  simp [applyOption, h1, h3]

/-- The arm of an option is its application (R267). -/
theorem runOptions_tlvEncode (fuel : Nat) {c : Octet} {v : Octets} (h0 : c ≠ 0) (h255 : c ≠ 255) (hv : v.length ≤ 255)
    (rest : Octets) (s : State) :
    runOptions (fuel + 1) (tlvEncode c v ++ rest) s = runOptions fuel rest (applyOption s (c, v.length, v)) := by
  rw [runOptions, caseOption_tlvEncode h0 h255 hv]
  split_ifs with h1 h3
  · rw [h1, applyOption_subnetMask]
  · rw [h3, applyOption_router]
  · rw [applyOption_other h1 h3, optOther]

/-- The walk of DHCP.RX is the walk that delivers, each option applied as it is met. -/
theorem runOptions_eq_foldl (fuel : Nat) (b : Octets) (s : State) :
    runOptions fuel b s = (tlvWalkFrom fuel b).foldl applyOption s := by
  induction fuel generalizing b s with
  | zero => rfl
  | succ fuel ih =>
    rcases stopsWalk_or_pad_or_option b with hstop | ⟨rest, rfl⟩ | ⟨c, v, rest, h0, h255, hv, rfl⟩
    · rw [runOptions_of_stopsWalk _ hstop, tlvWalkFrom_of_stopsWalk _ hstop, List.foldl_nil]
    · exact ih rest s
    · rw [runOptions_tlvEncode fuel h0 h255 hv, tlvWalkFrom_tlvEncode fuel h0 h255 hv, List.foldl_cons, ih]

/-- Applying options records no result. -/
theorem foldl_applyOption_results (opts : List (Octet × Nat × Octets)) (s : State) :
    (opts.foldl applyOption s).results = s.results := by
  induction opts generalizing s with
  | nil => rfl
  | cons o opts ih =>
    rw [List.foldl_cons, ih, applyOption]
    split_ifs <;> rfl

/-- Settles O34: the tests in their order, and the walk. -/
theorem dhcpReceive : Obligations.DhcpReceive := by
  have hexec (b : Octets) (s : State) : exec (.udpRxDhcpClient b) s = .next (dhcpRx Config.chip b s) := rfl
  intro b s
  refine ⟨fun hshort => ?_, fun hlen hmac => ?_, fun hlen hmac haddr => ?_, fun hlen hmac haddr => ?_⟩
  · rw [hexec, dhcpRx, if_pos hshort]; rfl
  · rw [hexec, dhcpRx, if_neg (Nat.not_lt.mpr hlen), if_pos hmac]; rfl
  · rw [hexec, dhcpRx, if_neg (Nat.not_lt.mpr hlen), if_neg (not_not.mpr hmac), if_pos haddr]; rfl
  · rw [hexec, dhcpRx, if_neg (Nat.not_lt.mpr hlen), if_neg (not_not.mpr hmac), if_neg haddr, runOptions_eq_foldl, State.endRx,
      State.finish, foldl_applyOption_results]
    rfl

/-! ### The last of each option stands (R267) -/

/-- The address the last option with this code and at least four octets carries; the old one where there is none. -/
def lastAddress (code : Octet) (opts : List (Octet × Nat × Octets)) (old : Word32) : Word32 :=
  (((opts.filter fun o => decide (o.1 = code ∧ 4 ≤ o.2.1)).getLast?).map fun o => be32 o.2.2 0).getD old

/-- One more option at the end stands if it has the code and the length. -/
theorem lastAddress_append_singleton (code : Octet) (opts : List (Octet × Nat × Octets)) (o : Octet × Nat × Octets) (old : Word32) :
    lastAddress code (opts ++ [o]) old = if o.1 = code ∧ 4 ≤ o.2.1 then be32 o.2.2 0 else lastAddress code opts old := by
  simp only [lastAddress, List.filter_append]
  split_ifs with h <;> simp [h]

/-- Options applied in order leave what the last of each kind writes. -/
theorem foldl_applyOption_eq (opts : List (Octet × Nat × Octets)) (s : State) :
    opts.foldl applyOption s =
      { s with netmask := lastAddress 1#8 opts s.netmask, gatewayIp := lastAddress 3#8 opts s.gatewayIp } := by
  induction opts using List.reverseRecOn with
  | nil => rfl
  | append_singleton opts o ih =>
    rw [List.foldl_append, ih, List.foldl_cons, List.foldl_nil, applyOption, lastAddress_append_singleton,
      lastAddress_append_singleton]
    split_ifs with h1 h3 h3
    · cases h1.1.symm.trans h3.1
    all_goals rfl

/-- Settles O35: DHCP.RX applies the options delivered, and the last of each kind stands. -/
theorem dhcpLastOptionStands : Obligations.DhcpLastOptionStands := by
  intro b s hlen hmac haddr
  obtain ⟨-, -, -, haccepted⟩ := dhcpReceive b s
  rw [haccepted hlen hmac haddr, foldl_applyOption_eq]
  rfl

end Sys2Proof.Machine

/-! PROOFS. The receive ring as a queue (R32): what a push and a pop make of the unread octets. -/

namespace Sys2Proof.Machine

theorem length_unread (cfg : Config) (c : Conn) : (c.unread cfg).length = c.recvCount := by simp [Conn.unread]

/-- Two distances below the capacity reach different offsets of the ring. -/
theorem add_mod_ne_of_lt {cap start i j : Nat} (hij : i < j) (hj : j < cap) : (start + i) % cap ≠ (start + j) % cap := by
  intro h
  have hmod : i ≡ j [MOD cap] := Nat.ModEq.add_left_cancel' start h
  exact Nat.ne_of_lt hij (hmod.eq_of_lt_of_lt (hij.trans hj) hj)

/-- The first octets of a string, read one by one. -/
theorem map_octetAt_range (data : Octets) {n : Nat} (h : n ≤ data.length) : (List.range n).map (octetAt data) = data.take n := by
  refine List.ext_getElem (by simp [h]) fun i hi _ => ?_
  have hlt : i < data.length := by simp at hi; omega
  simp [octetAt_eq_getElem hlt]

section

variable {cfg : Config} {c : Conn} (h : ConnOk cfg c)

include h

/-- The `j`-th octet pushed goes behind the unread ones. -/
theorem recvEnd_add_mod (j : Nat) :
    (c.recvEnd + j) % cfg.rxbufCap = (c.recvStart + (c.recvCount + j)) % cfg.rxbufCap := by
  rw [h.ringEnd, Nat.mod_add_mod, Nat.add_assoc]

/-- No push reaches an unread octet: together they are no more than the ring holds. -/
theorem ringPush_read_unread (data : Octets) {i : Nat} (hi : i < c.recvCount) :
    Memory.read (ringPush cfg c data).2.recvBuf ((c.recvStart + i) % cfg.rxbufCap)
      = Memory.read c.recvBuf ((c.recvStart + i) % cfg.rxbufCap) := by
  refine h.ringPush_read_other data fun j hj => ?_
  have hroom : j < cfg.rxbufCap - c.recvCount := hj.trans_le (Nat.min_le_right _ _)
  rw [recvEnd_add_mod h]
  exact add_mod_ne_of_lt (by omega) (by omega)

/-- A push appends what there is room for. -/
theorem unread_ringPush (data : Octets) :
    (ringPush cfg c data).2.unread cfg = c.unread cfg ++ data.take (cfg.rxbufCap - c.recvCount) := by
  have hn : (ringPush cfg c data).1 = min data.length (cfg.rxbufCap - c.recvCount) := rfl
  have hstart : (ringPush cfg c data).2.recvStart = c.recvStart := by rw [ringPush_frame]
  have hcount : (ringPush cfg c data).2.recvCount = c.recvCount + (ringPush cfg c data).1 := by rw [ringPush_frame]; rfl
  have hold : (List.range c.recvCount).map (fun i =>
      Memory.read (ringPush cfg c data).2.recvBuf ((c.recvStart + i) % cfg.rxbufCap)) = c.unread cfg :=
    List.map_congr_left fun i hi => ringPush_read_unread h data (List.mem_range.mp hi)
  have hnew : (List.range (ringPush cfg c data).1).map (fun j =>
      Memory.read (ringPush cfg c data).2.recvBuf ((c.recvStart + (c.recvCount + j)) % cfg.rxbufCap))
        = data.take (cfg.rxbufCap - c.recvCount) := by
    rw [List.take_eq_take_min, Nat.min_comm, ← hn, ← map_octetAt_range data (hn ▸ Nat.min_le_left _ _)]
    refine List.map_congr_left fun j hj => ?_
    rw [← recvEnd_add_mod h, h.ringPush_read_stored data (List.mem_range.mp hj)]
  rw [Conn.unread, hstart, hcount, List.range_add, List.map_append, List.map_map, hold]
  exact congrArg _ hnew

/-- A pop returns the oldest unread octets. -/
theorem ringPop_octets (maxlen : Nat) : (ringPop cfg c maxlen).1 = (c.unread cfg).take maxlen := by
  rw [ringPop_eq h.start, Conn.unread, ← List.map_take, List.take_range]

/-- A pop leaves the others. -/
theorem unread_ringPop (maxlen : Nat) : (ringPop cfg c maxlen).2.unread cfg = (c.unread cfg).drop maxlen := by
  refine List.ext_getElem ?length fun i hi _ => ?octet
  case length =>
    rw [List.length_drop, length_unread, length_unread, ringPop_eq h.start]
    dsimp only
    omega
  case octet =>
    have hpopped : min maxlen c.recvCount = maxlen := by
      rw [length_unread, ringPop_eq h.start] at hi
      dsimp only at hi
      omega
    simp only [ringPop_eq h.start, Conn.unread, hpopped, List.getElem_drop, List.getElem_map, List.getElem_range, Nat.mod_add_mod,
      Nat.add_assoc]

end

/-- Settles O38: a push at the end, a pop at the front. -/
theorem ringIsFifo : Obligations.RingIsFifo := fun _ _ h =>
  ⟨unread_ringPush h, fun maxlen => ⟨ringPop_octets h maxlen, unread_ringPop h maxlen⟩⟩

end Sys2Proof.Machine
